-- ==== Sys2Proof/Word.lean ====
section
/-! DEFINITION. The widths of the block's words (00_scope.md R10) and the two accumulator channels (R7). -/

namespace Sys2Proof

/-- u8: keys, request arguments, micro-step codes. -/
abbrev Byte := BitVec 8

/-- u32: a register-bus word, a command word, a request header, a stimulus word. -/
abbrev Word := BitVec 32

/-- u64: totals, times, sensor values. -/
abbrev DWord := BitVec 64

/-- R7: the two accumulator channels; channel 0 is `RAIN`, channel 1 is `WIND`. -/
inductive Channel where
  | rain
  | wind
deriving DecidableEq, Repr, Inhabited

end Sys2Proof
end

