-- ==== Sys2Proof/Config.lean ====
section
/-! DEFINITION. The configuration record `Cfg` (00_scope.md R8), the shape of one clock cycle's inputs
(43_interfaces.md R280), and the free inputs (I20, I21, I27 of 93_implementation_defined.md). -/

namespace Sys2Proof

/-- The configuration record `Cfg` of R8, fixed for a run. `REFRACT`, `UNIT` and `THRESH` have one value per channel. -/
structure Cfg where
  tickHz           : Word
  refractRain      : Word
  refractWind      : Word
  unitRain         : Word
  unitWind         : Word
  threshRain       : Word
  threshWind       : Word
  sleepInterval    : Word
  joinFailInterval : Word
  battInterval     : Word
  btnHold          : Word
  activeTimeout    : Word
  joinAttempts     : Byte
  joinBackoff      : Word
  probeRetries     : Byte
  durableN         : Word
  armRetryDelay    : Word
  battLoMv         : Word
  battHiMv         : Word
  sentinelT        : DWord
  sentinelH        : DWord
  sentinelP        : DWord
  gatePins         : List Byte
deriving DecidableEq, Repr, Inhabited

/-- One access of the register bus as its ports carry it in a cycle (R280): `BUS_WE` or `BUS_RE`, `BUS_ADDR`,
`BUS_SIZE` (bytes), `BUS_WDATA`. -/
structure BusBeat where
  write : Bool
  addr  : BitVec 12
  size  : BitVec 3
  data  : Word
deriving DecidableEq, Repr, Inhabited

/-- The collaborators' side of the request port in a cycle (R260, R280): `RSP_READY`, `RSP_STATUS` and the numeric
`RSP_DATA`. The byte string that answers a `STORE_GET` is not here: it is not free (R263). -/
structure Answer where
  ready  : Bool
  status : Byte
  data   : DWord
deriving DecidableEq, Repr, Inhabited

/-- The inputs of one clock cycle (R280): the reset, the tick strobe, the level on each input, at most one bus access,
and whether and what a collaborator answers. -/
structure CycleIn where
  por     : Bool
  tick    : Bool
  rain    : Bool
  wind    : Bool
  btn     : Bool
  factory : Bool
  assoc   : Bool
  idle    : Bool
  bus     : Option BusBeat
  ans     : Answer
deriving DecidableEq, Repr, Inhabited

/-- The input oracle: what the ports carry in the n-th cycle of a run that no script covers. FREE: the spec lets every
input take any value in any cycle (R260, R281 to R284; I20, I21, I27), so nothing is known of it (log 5). -/
opaque Config.freeCycle : Nat → CycleIn

/-- The configuration `State.reset` is launched with: `CfgA` of spec/95_test_vectors.md, which is valid by R9. DESIGN CHOICE,
unsafe: the spec leaves every value but `REFRACT[1] = 0` and three defaults OPEN (D57). No statement rests on it: they hold for
every value of the field `cfg` (log 3). -/
def Config.launchCfg : Cfg where
  tickHz := 1000
  refractRain := 200
  refractWind := 0
  unitRain := 360000
  unitWind := 667000
  threshRain := 1000000
  threshWind := 1000000000
  sleepInterval := 60000
  joinFailInterval := 300000
  battInterval := 3600000
  btnHold := 5000
  activeTimeout := 5000
  joinAttempts := 3
  joinBackoff := 100
  probeRetries := 1
  durableN := 10
  armRetryDelay := 50
  battLoMv := 2700
  battHiMv := 4200
  sentinelT := 0x7FFF
  sentinelH := 0x7FFF
  sentinelP := 101325
  gatePins := [5]

end Sys2Proof
end

