-- ==== Sys2Proof/Syntax.lean ====
section
/-! DEFINITION. The instructions: one constructor for each of the 71 rows of spec/opcode_table.json (30_encoding.md R101, R110,
R116, R122; 20_memory.md R73; 42_power_fsm.md R200). -/

namespace Sys2Proof

/-- The rows of spec/opcode_table.json. Operands: `ch` is bit 8 of a command word (R100; `NOP` carries it and ignores it, R102);
`a` and `b` are bits 15:8 and 23:16 of a request header (R110), followed by the payload where the kind has one; `lvl` is bit 8
of a stimulus word (R116; `TICK` and `POR` ignore it); a bus access has its address, its size in bytes and its data. -/
inductive Instr where
  -- commands (R101)
  | nop (ch : Channel)
  | arm (ch : Channel)
  | flush (ch : Channel)
  | readTotal (ch : Channel)
  | resetTo (ch : Channel)
  | sampleRate (ch : Channel)
  | ackReport (ch : Channel)
  -- collaborator requests (R110)
  | reqJoin (a b : Byte)
  | reqReport (a b : Byte) (value : DWord)
  | reqStoreGet (a b : Byte)
  | reqStoreSet (a b : Byte) (bytes : List Byte)
  | reqProbe (a b : Byte)
  | reqSensorRead (a b : Byte)
  | reqBattSample (a b : Byte)
  | reqWakeCfg (a b : Byte) (dur : Word)
  | reqSetLevel (a b : Byte)
  | reqSleepReq (a b : Byte)
  -- input events (R116)
  | evtTick (lvl : Bool)
  | evtInRain (lvl : Bool)
  | evtInWind (lvl : Bool)
  | evtInBtn (lvl : Bool)
  | evtInAssoc (lvl : Bool)
  | evtInIdle (lvl : Bool)
  | evtInFactory (lvl : Bool)
  | evtPor (lvl : Bool)
  -- register-bus accesses (R73)
  | busRd (addr : BitVec 12) (size : BitVec 3)
  | busWr (addr : BitVec 12) (size : BitVec 3) (data : Word)
  -- FSM micro-steps (R200)
  | boot0
  | boot1
  | boot2
  | boot3
  | join0
  | join1
  | join2
  | activeSession0
  | activeSession1
  | activeSession2
  | activeSession3
  | activeSession4
  | activeSession5
  | activeSession6
  | activeSession7
  | activeSession8
  | activeSession9
  | activeSession10
  | activeSession11
  | activeSession12
  | activeSession13
  | activeSession14
  | activeSession15
  | activeSession16
  | activeSession17
  | activeSession18
  | activeSession19
  | enterSleep0
  | enterSleep1
  | enterSleep2
  | enterSleep3
  | enterSleep4
  | enterSleep5
  | enterSleep6
  | enterSleep7
  | sleeping0
  | wake0
  | wake1
  | wake2
  | wake3
  | factoryReset0
  | factoryReset1
  | factoryReset2
  | factoryReset3
deriving DecidableEq, Repr

/-- The formats of R117, and the two bus accesses of R73. The same 32-bit number can be a command, a request header and a
stimulus word: which it is depends on the port that carries it (log 10). -/
inductive Format where
  | cmd
  | req
  | evt
  | busRd
  | busWr
  | fsm
deriving DecidableEq, Repr

end Sys2Proof
end

