-- ==== Sys2Proof/WellFormed.lean ====
section
/-! DEFINITION. Which instructions are well formed: the operands R110 gives each request kind, the lengths of payloads, and the
one legal form of a bus access (20_memory.md R73). -/

namespace Sys2Proof

/-- R113: the device codes of `PROBE` and `SENSOR_READ` are 1, 2 and 3. -/
def isDevice (a : Byte) : Bool := a == 1 || a == 2 || a == 3

/-- R112: the report channels are 0 to 7. -/
def isReportChannel (a : Byte) : Bool := decide (a.toNat ≤ 7)

/-- R113: the quantities are 0, 1 and 2. -/
def isQuantity (b : Byte) : Bool := decide (b.toNat ≤ 2)

/-- R114: the sleep variants are 0 and 1; levels are 0 and 1 as well (R270). -/
def isBit (b : Byte) : Bool := b == 0 || b == 1

/-- R110: `PLAN_ARM` fills bits 3:0 of its argument. -/
def isArmSet (a : Byte) : Bool := decide (a.toNat ≤ 15)

/-- The table's form of a bus access (R73): word aligned, four bytes. Whether the address is mapped is the machine's business. -/
def isBusForm (addr : BitVec 12) (size : BitVec 3) : Bool := addr.extractLsb' 0 2 == 0 && size == 4

/-- The instruction has the operands its encoding admits (R100, R110, R116, R73). -/
def Instr.wellFormed : Instr → Bool
  | .reqJoin a b => a == 0 && b == 0
  | .reqReport a b _ => isReportChannel a && b == 0
  | .reqStoreGet _ b => b == 0
  | .reqStoreSet _ b bytes => bytes.length == b.toNat
  | .reqProbe a b => isDevice a && b == 0
  | .reqSensorRead a b => isDevice a && isQuantity b
  | .reqBattSample a b => a == 0 && b == 0
  | .reqWakeCfg a b _ => isArmSet a && isBit b
  | .reqSetLevel _ b => isBit b
  | .reqSleepReq a b => isBit a && b == 0
  | .busRd addr size => isBusForm addr size
  | .busWr addr size _ => isBusForm addr size
  | .nop _ | .arm _ | .flush _ | .readTotal _ | .resetTo _ | .sampleRate _ | .ackReport _ | .evtTick _ | .evtInRain _
  | .evtInWind _ | .evtInBtn _ | .evtInAssoc _ | .evtInIdle _ | .evtInFactory _ | .evtPor _ | .boot0 | .boot1
  | .boot2 | .boot3 | .join0 | .join1 | .join2 | .activeSession0 | .activeSession1 | .activeSession2
  | .activeSession3 | .activeSession4 | .activeSession5 | .activeSession6 | .activeSession7 | .activeSession8
  | .activeSession9 | .activeSession10 | .activeSession11 | .activeSession12 | .activeSession13 | .activeSession14
  | .activeSession15 | .activeSession16 | .activeSession17 | .activeSession18 | .activeSession19 | .enterSleep0
  | .enterSleep1 | .enterSleep2 | .enterSleep3 | .enterSleep4 | .enterSleep5 | .enterSleep6 | .enterSleep7
  | .sleeping0 | .wake0 | .wake1 | .wake2 | .wake3 | .factoryReset0 | .factoryReset1 | .factoryReset2
  | .factoryReset3 => true

/-- The instruction is well formed. -/
abbrev WellFormed (i : Instr) : Prop := i.wellFormed = true

end Sys2Proof
end

