-- ==== Sys2Proof/Decode.lean ====
section
/-! DEFINITION. Decoding and encoding (30_encoding.md): the command word, the request header and payload, the stimulus word, the
micro-step code, the bus access; and the little-endian byte order (20_memory.md R77, R87). -/

namespace Sys2Proof

/-! ## Bytes -/

/-- R77: byte lane `k` of a word carries bits `8k+7 : 8k`; the bytes of a word, lowest first. -/
def wordBytes (w : Word) : List Byte :=
  [w.extractLsb' 0 8, w.extractLsb' 8 8, w.extractLsb' 16 8, w.extractLsb' 24 8]

/-- R77: the word whose byte lanes 0 to 3 are given. -/
def wordOfBytes (b0 b1 b2 b3 : Byte) : Word := b3 ++ b2 ++ b1 ++ b0

/-- R12, R87: `le64(v)`, byte 0 = `v[7:0]`. -/
def le64 (v : DWord) : List Byte :=
  wordBytes (v.extractLsb' 0 32) ++ wordBytes (v.extractLsb' 32 32)

/-- Takes a word off the front of a byte string. -/
def takeWord : List Byte → Option (Word × List Byte)
  | b0 :: b1 :: b2 :: b3 :: rest => some (wordOfBytes b0 b1 b2 b3, rest)
  | _ => none

/-- Takes a 64-bit value off the front of a byte string, low word first (R77). -/
def takeDWord (bytes : List Byte) : Option (DWord × List Byte) :=
  match takeWord bytes with
  | none => none
  | some (lo, rest) =>
    match takeWord rest with
    | none => none
    | some (hi, rest') => some (hi ++ lo, rest')

/-- The `n` low bytes of a number, lowest first. -/
def natBytes : Nat → Nat → List Byte
  | 0, _ => []
  | n + 1, v => BitVec.ofNat 8 v :: natBytes n (v / 256)

/-! ## Decoding -/

/-- Why bits are no instruction. -/
inductive DecodeError where
  /-- fewer bytes than the format has -/
  | truncated
  /-- a command word with bits 31:9 not all 0 (R103, code 2), or a request header with bits 31:24 not all 0 (R110) -/
  | reservedBits
  /-- a command opcode above 0x06 (R103, code 1) -/
  | illegalOpcode
  /-- a request kind 0x00 or 0x0B to 0xFF (R110: never emitted) -/
  | reservedRequest
  /-- a stimulus word that R116 does not list -/
  | reservedStimulus
  /-- a micro-step code that R200 does not list (R21: unreachable) -/
  | unlistedMicroStep
  /-- an address that is not `aaaaaaaaaa00` in 12 bits (R73) -/
  | badBusAddress
deriving DecidableEq, Repr

/-- R100, R102: bit 8 of a command word selects the channel. -/
def channelOfBit (b : Bool) : Channel := if b then .wind else .rain

/-- R7: the channel's number as a bit. -/
def channelBit : Channel → Bool
  | .rain => false
  | .wind => true

/-- R101, R103: a command word; the reserved bits are checked before the opcode. -/
def decodeCmd (w : Word) : Except DecodeError Instr :=
  let c := channelOfBit (w.getLsbD 8)
  if w.extractLsb' 9 23 ≠ 0 then .error .reservedBits
  else
    match (w.extractLsb' 0 8).toNat with
    | 0 => .ok (.nop c)
    | 1 => .ok (.arm c)
    | 2 => .ok (.flush c)
    | 3 => .ok (.readTotal c)
    | 4 => .ok (.resetTo c)
    | 5 => .ok (.sampleRate c)
    | 6 => .ok (.ackReport c)
    | _ => .error .illegalOpcode

/-- R116: a stimulus word; bits 31:9 are zero. -/
def decodeEvt (w : Word) : Except DecodeError Instr :=
  let l := w.getLsbD 8
  if w.extractLsb' 9 23 ≠ 0 then .error .reservedStimulus
  else
    match (w.extractLsb' 0 8).toNat with
    | 1 => .ok (.evtTick l)
    | 2 => .ok (.evtInRain l)
    | 3 => .ok (.evtInWind l)
    | 4 => .ok (.evtInBtn l)
    | 5 => .ok (.evtInAssoc l)
    | 6 => .ok (.evtInIdle l)
    | 7 => .ok (.evtInFactory l)
    | 8 => .ok (.evtPor l)
    | _ => .error .reservedStimulus

/-- R110: a request header and the bytes after it, of which the kind takes its payload; what is left is handed back. -/
def decodeReq (hdr : Word) (bytes : List Byte) : Except DecodeError (Instr × List Byte) :=
  let a := hdr.extractLsb' 8 8
  let b := hdr.extractLsb' 16 8
  if hdr.extractLsb' 24 8 ≠ 0 then .error .reservedBits
  else
    match (hdr.extractLsb' 0 8).toNat with
    | 1 => .ok (.reqJoin a b, bytes)
    | 2 =>
      match takeDWord bytes with
      | some (v, rest) => .ok (.reqReport a b v, rest)
      | none => .error .truncated
    | 3 => .ok (.reqStoreGet a b, bytes)
    | 4 =>
      if bytes.length < b.toNat then .error .truncated
      else .ok (.reqStoreSet a b (bytes.take b.toNat), bytes.drop b.toNat)
    | 5 => .ok (.reqProbe a b, bytes)
    | 6 => .ok (.reqSensorRead a b, bytes)
    | 7 => .ok (.reqBattSample a b, bytes)
    | 8 =>
      match takeWord bytes with
      | some (d, rest) => .ok (.reqWakeCfg a b d, rest)
      | none => .error .truncated
    | 9 => .ok (.reqSetLevel a b, bytes)
    | 10 => .ok (.reqSleepReq a b, bytes)
    | _ => .error .reservedRequest

/-- R200: the micro-step with a code; the codes are those of the table of R200. -/
def decodeFsm (code : Byte) : Except DecodeError Instr :=
  match code.toNat with
  | 0x00 => .ok .boot0
  | 0x08 => .ok .boot1
  | 0x10 => .ok .boot2
  | 0x18 => .ok .boot3
  | 0x01 => .ok .join0
  | 0x09 => .ok .join1
  | 0x11 => .ok .join2
  | 0x02 => .ok .activeSession0
  | 0x0A => .ok .activeSession1
  | 0x12 => .ok .activeSession2
  | 0x1A => .ok .activeSession3
  | 0x22 => .ok .activeSession4
  | 0x2A => .ok .activeSession5
  | 0x32 => .ok .activeSession6
  | 0x3A => .ok .activeSession7
  | 0x42 => .ok .activeSession8
  | 0x4A => .ok .activeSession9
  | 0x52 => .ok .activeSession10
  | 0x5A => .ok .activeSession11
  | 0x62 => .ok .activeSession12
  | 0x6A => .ok .activeSession13
  | 0x72 => .ok .activeSession14
  | 0x7A => .ok .activeSession15
  | 0x82 => .ok .activeSession16
  | 0x8A => .ok .activeSession17
  | 0x92 => .ok .activeSession18
  | 0x9A => .ok .activeSession19
  | 0x03 => .ok .enterSleep0
  | 0x0B => .ok .enterSleep1
  | 0x13 => .ok .enterSleep2
  | 0x1B => .ok .enterSleep3
  | 0x23 => .ok .enterSleep4
  | 0x2B => .ok .enterSleep5
  | 0x33 => .ok .enterSleep6
  | 0x3B => .ok .enterSleep7
  | 0x04 => .ok .sleeping0
  | 0x05 => .ok .wake0
  | 0x0D => .ok .wake1
  | 0x15 => .ok .wake2
  | 0x1D => .ok .wake3
  | 0x06 => .ok .factoryReset0
  | 0x0E => .ok .factoryReset1
  | 0x16 => .ok .factoryReset2
  | 0x1E => .ok .factoryReset3
  | _ => .error .unlistedMicroStep

/-- R73, R280: the access that the bus ports carry; every beat is one, a legal one or one that raises `BusError` (R74). -/
def decodeBeat (b : BusBeat) : Instr :=
  if b.write then .busWr b.addr b.size b.data else .busRd b.addr b.size

/-- R73: an address `aaaaaaaaaa00` in the low 12 bits of two bytes. -/
def decodeBusAddress (b0 b1 : Byte) : Except DecodeError (BitVec 12) :=
  let a : BitVec 16 := b1 ++ b0
  if a.extractLsb' 12 4 ≠ 0 ∨ a.extractLsb' 0 2 ≠ 0 then .error .badBusAddress
  else .ok (a.extractLsb' 0 12)

/-- The instruction of a format that a byte string begins with, and the bytes after it. Total; what is no instruction is rejected
by name. The access size of a bus row is 4 (R73: the only legal one). -/
def decode (f : Format) (bytes : List Byte) : Except DecodeError (Instr × List Byte) :=
  match f with
  | .cmd =>
    match takeWord bytes with
    | none => .error .truncated
    | some (w, rest) => (decodeCmd w).map (·, rest)
  | .evt =>
    match takeWord bytes with
    | none => .error .truncated
    | some (w, rest) => (decodeEvt w).map (·, rest)
  | .req =>
    match takeWord bytes with
    | none => .error .truncated
    | some (w, rest) => decodeReq w rest
  | .fsm =>
    match bytes with
    | [] => .error .truncated
    | b :: rest => (decodeFsm b).map (·, rest)
  | .busRd =>
    match bytes with
    | b0 :: b1 :: rest => (decodeBusAddress b0 b1).map (.busRd · 4, rest)
    | _ => .error .truncated
  | .busWr =>
    match bytes with
    | b0 :: b1 :: rest =>
      match takeWord rest with
      | none => .error .truncated
      | some (d, rest') => (decodeBusAddress b0 b1).map (.busWr · 4 d, rest')
    | _ => .error .truncated

/-! ## The words of the opcode table -/

/-- The formats a table word of `nbits` bits can have, tried in this order. Commands, stimulus words and request headers are all
32 bits and share their low codes: on the hardware the port tells them apart. Here the rows that fix more bits come first
(CMD and EVT fix 31, REQ fixes 16), then the table's order (log 10). -/
def tableFormats (nbits : Nat) : List Format :=
  if nbits ≤ 8 then [.fsm]
  else if nbits ≤ 16 then [.busRd]
  else if nbits ≤ 32 then [.cmd, .evt, .req]
  else [.busWr]

/-- The bytes of a table word as the block's ports carry them, lowest first (R77), with the zero bytes an operand after it has. -/
def tableBytes (w : Nat) : List Byte := natBytes 8 w ++ List.replicate 255 0

/-- The first format of a list that decodes a byte string, with its instruction. -/
def firstDecoded (bytes : List Byte) : List Format → Option (Format × Instr)
  | [] => none
  | f :: fs =>
    match decode f bytes with
    | .ok (i, _) => some (f, i)
    | .error _ => firstDecoded bytes fs

/-- The instruction the decoder reads from a word of the opcode table. -/
def decodeTableWord (nbits w : Nat) : Option Instr :=
  (firstDecoded (tableBytes w) (tableFormats nbits)).map (·.2)

/-! ## Encoding -/

/-- R110: the names and codes of the request kinds. -/
inductive ReqKind where
  | join
  | report
  | storeGet
  | storeSet
  | probe
  | sensorRead
  | battSample
  | wakeCfg
  | setLevel
  | sleepReq
deriving DecidableEq, Repr

/-- R110: the code of a request kind, bits 7:0 of its header. -/
def ReqKind.code : ReqKind → Byte
  | .join => 0x01
  | .report => 0x02
  | .storeGet => 0x03
  | .storeSet => 0x04
  | .probe => 0x05
  | .sensorRead => 0x06
  | .battSample => 0x07
  | .wakeCfg => 0x08
  | .setLevel => 0x09
  | .sleepReq => 0x0A

/-- R110: the request header; bits 31:24 are always 0. -/
def requestHeader (k : ReqKind) (a b : Byte) : Word := (0 : Byte) ++ b ++ a ++ k.code

/-- R100: the command word `(c << 8) | opc`. -/
def commandWord (opc : Byte) (c : Channel) : Word := (0 : BitVec 23) ++ BitVec.ofBool (channelBit c) ++ opc

/-- R116: the stimulus word of event `evt` with level `lvl`. -/
def stimulusWord (evt : Byte) (lvl : Bool) : Word := (0 : BitVec 23) ++ BitVec.ofBool lvl ++ evt

/-- R122: the micro-step code, SUBSTEP in bits 7:3 and STATE in bits 2:0. -/
def microStepCode (state : BitVec 3) (substep : BitVec 5) : Byte := substep ++ state

/-- R73: the address of a bus access in two bytes. -/
def busAddressBytes (addr : BitVec 12) : List Byte :=
  let a : BitVec 16 := (0 : BitVec 4) ++ addr
  [a.extractLsb' 0 8, a.extractLsb' 8 8]

/-- The format of an instruction's row. -/
def formatOf : Instr → Format
  | .nop _ | .arm _ | .flush _ | .readTotal _ | .resetTo _ | .sampleRate _ | .ackReport _ => .cmd
  | .reqJoin _ _ | .reqReport _ _ _ | .reqStoreGet _ _ | .reqStoreSet _ _ _ | .reqProbe _ _ | .reqSensorRead _ _
  | .reqBattSample _ _ | .reqWakeCfg _ _ _ | .reqSetLevel _ _ | .reqSleepReq _ _ => .req
  | .evtTick _ | .evtInRain _ | .evtInWind _ | .evtInBtn _ | .evtInAssoc _ | .evtInIdle _ | .evtInFactory _
  | .evtPor _ => .evt
  | .busRd _ _ => .busRd
  | .busWr _ _ _ => .busWr
  | .boot0 | .boot1 | .boot2 | .boot3 | .join0 | .join1 | .join2 | .activeSession0 | .activeSession1
  | .activeSession2 | .activeSession3 | .activeSession4 | .activeSession5 | .activeSession6 | .activeSession7
  | .activeSession8 | .activeSession9 | .activeSession10 | .activeSession11 | .activeSession12 | .activeSession13
  | .activeSession14 | .activeSession15 | .activeSession16 | .activeSession17 | .activeSession18 | .activeSession19
  | .enterSleep0 | .enterSleep1 | .enterSleep2 | .enterSleep3 | .enterSleep4 | .enterSleep5 | .enterSleep6
  | .enterSleep7 | .sleeping0 | .wake0 | .wake1 | .wake2 | .wake3 | .factoryReset0 | .factoryReset1 | .factoryReset2
  | .factoryReset3 => .fsm

/-- The bytes of a well-formed instruction, lowest first: its word, then the payload of a request or the data of a bus write. -/
def encode : Instr → List Byte
  | .nop c => wordBytes (commandWord 0x00 c)
  | .arm c => wordBytes (commandWord 0x01 c)
  | .flush c => wordBytes (commandWord 0x02 c)
  | .readTotal c => wordBytes (commandWord 0x03 c)
  | .resetTo c => wordBytes (commandWord 0x04 c)
  | .sampleRate c => wordBytes (commandWord 0x05 c)
  | .ackReport c => wordBytes (commandWord 0x06 c)
  | .reqJoin a b => wordBytes (requestHeader .join a b)
  | .reqReport a b v => wordBytes (requestHeader .report a b) ++ le64 v
  | .reqStoreGet a b => wordBytes (requestHeader .storeGet a b)
  | .reqStoreSet a b bytes => wordBytes (requestHeader .storeSet a b) ++ bytes
  | .reqProbe a b => wordBytes (requestHeader .probe a b)
  | .reqSensorRead a b => wordBytes (requestHeader .sensorRead a b)
  | .reqBattSample a b => wordBytes (requestHeader .battSample a b)
  | .reqWakeCfg a b d => wordBytes (requestHeader .wakeCfg a b) ++ wordBytes d
  | .reqSetLevel a b => wordBytes (requestHeader .setLevel a b)
  | .reqSleepReq a b => wordBytes (requestHeader .sleepReq a b)
  | .evtTick l => wordBytes (stimulusWord 0x01 l)
  | .evtInRain l => wordBytes (stimulusWord 0x02 l)
  | .evtInWind l => wordBytes (stimulusWord 0x03 l)
  | .evtInBtn l => wordBytes (stimulusWord 0x04 l)
  | .evtInAssoc l => wordBytes (stimulusWord 0x05 l)
  | .evtInIdle l => wordBytes (stimulusWord 0x06 l)
  | .evtInFactory l => wordBytes (stimulusWord 0x07 l)
  | .evtPor l => wordBytes (stimulusWord 0x08 l)
  | .busRd addr _ => busAddressBytes addr
  | .busWr addr _ d => busAddressBytes addr ++ wordBytes d
  | .boot0 => [microStepCode 0 0]
  | .boot1 => [microStepCode 0 1]
  | .boot2 => [microStepCode 0 2]
  | .boot3 => [microStepCode 0 3]
  | .join0 => [microStepCode 1 0]
  | .join1 => [microStepCode 1 1]
  | .join2 => [microStepCode 1 2]
  | .activeSession0 => [microStepCode 2 0]
  | .activeSession1 => [microStepCode 2 1]
  | .activeSession2 => [microStepCode 2 2]
  | .activeSession3 => [microStepCode 2 3]
  | .activeSession4 => [microStepCode 2 4]
  | .activeSession5 => [microStepCode 2 5]
  | .activeSession6 => [microStepCode 2 6]
  | .activeSession7 => [microStepCode 2 7]
  | .activeSession8 => [microStepCode 2 8]
  | .activeSession9 => [microStepCode 2 9]
  | .activeSession10 => [microStepCode 2 10]
  | .activeSession11 => [microStepCode 2 11]
  | .activeSession12 => [microStepCode 2 12]
  | .activeSession13 => [microStepCode 2 13]
  | .activeSession14 => [microStepCode 2 14]
  | .activeSession15 => [microStepCode 2 15]
  | .activeSession16 => [microStepCode 2 16]
  | .activeSession17 => [microStepCode 2 17]
  | .activeSession18 => [microStepCode 2 18]
  | .activeSession19 => [microStepCode 2 19]
  | .enterSleep0 => [microStepCode 3 0]
  | .enterSleep1 => [microStepCode 3 1]
  | .enterSleep2 => [microStepCode 3 2]
  | .enterSleep3 => [microStepCode 3 3]
  | .enterSleep4 => [microStepCode 3 4]
  | .enterSleep5 => [microStepCode 3 5]
  | .enterSleep6 => [microStepCode 3 6]
  | .enterSleep7 => [microStepCode 3 7]
  | .sleeping0 => [microStepCode 4 0]
  | .wake0 => [microStepCode 5 0]
  | .wake1 => [microStepCode 5 1]
  | .wake2 => [microStepCode 5 2]
  | .wake3 => [microStepCode 5 3]
  | .factoryReset0 => [microStepCode 6 0]
  | .factoryReset1 => [microStepCode 6 1]
  | .factoryReset2 => [microStepCode 6 2]
  | .factoryReset3 => [microStepCode 6 3]

end Sys2Proof
end

