-- ==== Sys2Proof/Machine/State.lean ====
section
/-! DEFINITION. The state of the block (10_state.md), by power domain (R22): AON registers, MAIN registers, and what the block is
wired to (configuration, durable store, ports). Plain data. The reset values are those of R340. -/

namespace Sys2Proof.Machine

/-- R35, R62: a two-flop synchroniser and the third flop of the edge detector. -/
structure Sync where
  s1 : Bool
  s2 : Bool
  s3 : Bool
deriving DecidableEq, Repr, Inhabited

/-- R24: one accumulator channel's bank, its status bits (R28) as fields, and its synchroniser (R35). -/
structure AccBank where
  /-- R25 -/
  total     : DWord
  /-- R26 -/
  pending   : Word
  /-- R27 -/
  lastEdge  : DWord
  /-- R28, bit 0 -/
  armed     : Bool
  /-- R28, bit 1 -/
  leValid   : Bool
  /-- R28, bit 2 -/
  pendOvf   : Bool
  /-- R28, bit 3 -/
  totalSat  : Bool
  /-- R28, bit 4 -/
  reportReq : Bool
  /-- R28, bit 5 -/
  auxSat    : Bool
  /-- R30 -/
  sinceRpt  : Word
  /-- R31 -/
  durEdges  : Word
  /-- R32 -/
  winCount  : Word
  /-- R33 -/
  winStart  : DWord
  /-- R34 -/
  lastRate  : DWord
  /-- R35 -/
  sync      : Sync
deriving DecidableEq, Repr, Inhabited

/-- R53: the cached `SensorCombo`; its reserved bits are not stored, they read 0. -/
structure Combo where
  tSrc  : BitVec 2
  hSrc  : BitVec 2
  pSrc  : BitVec 2
  rule  : BitVec 3
  valid : Bool
deriving DecidableEq, Repr, Inhabited

/-- R22: the AON domain, kept by every reset but `POR`. -/
structure Aon where
  /-- the bank at `CH_BASE(0)` -/
  rain        : AccBank
  /-- the bank at `CH_BASE(1)` -/
  wind        : AccBank
  /-- R40 -/
  time        : DWord
  /-- R41, bit 8: false LIGHT, true DEEP -/
  lastVariant : Bool
  /-- R41, bit 9 -/
  joinPending : Bool
  /-- R41, bit 12 -/
  frstPend    : Bool
  /-- R41, bit 13 -/
  timerRun    : Bool
  /-- R41, bit 14 -/
  asleep      : Bool
  /-- R42 -/
  fsmEn       : Bool
  /-- R43 -/
  wakeCause   : BitVec 3
  /-- R44 -/
  wakePend    : BitVec 4
  /-- R45 -/
  wakeArm     : BitVec 4
  /-- R48 -/
  deadline    : DWord
  /-- R51 -/
  btnPress    : DWord
  /-- R53 -/
  combo       : Combo
  /-- R54 -/
  battMv      : Word
  /-- R55, bits 6:0 -/
  battPct     : BitVec 7
  /-- R55, bit 8 -/
  battValid   : Bool
  /-- R55, bit 9 -/
  lbtValid    : Bool
  /-- R56 -/
  lastBatt    : DWord
  /-- R57 -/
  battAt      : DWord
  /-- R62 -/
  bsync       : Sync
  /-- R62 -/
  fsync       : Sync
deriving DecidableEq, Repr, Inhabited

/-- R39: the six result registers. -/
structure Results where
  r0 : Word := 0
  r1 : Word := 0
  r2 : Word := 0
  r3 : Word := 0
  r4 : Word := 0
  r5 : Word := 0
deriving DecidableEq, Repr, Inhabited

/-- R22, R341: the MAIN domain, reset by `POR`, by a DEEP wake and by the factory restart. -/
structure Main where
  /-- R37 -/
  argLo        : Word
  /-- R37 -/
  argHi        : Word
  /-- R38, bit 0 -/
  cmdErr       : Bool
  /-- R38, bits 3:1 -/
  cmdErrCode   : BitVec 3
  /-- R38, bits 15:8 -/
  lastOpc      : Byte
  /-- R38, bits 31:16 -/
  cmdCount     : BitVec 16
  /-- R39 -/
  res          : Results
  /-- R41, bits 2:0; with `substep` the program counter (R21) -/
  state        : BitVec 3
  /-- R41, bits 7:3 -/
  substep      : BitVec 5
  /-- R41, bit 10 -/
  longSleep    : Bool
  /-- R41, bit 11 -/
  fullPath     : Bool
  /-- R41, bit 15 -/
  assocStored  : Bool
  /-- R41, bits 23:16, `TRY` -/
  tryCount     : Byte
  /-- R41, bits 31:24 -/
  joinTry      : Byte
  /-- R46, bits 3:0 -/
  planArm      : BitVec 4
  /-- R46, bit 4 -/
  planRetain   : Bool
  /-- R47 -/
  sleepDur     : Word
  /-- R49 -/
  sessionStart : DWord
  /-- R50 -/
  waitUntil    : DWord
  /-- R55, bit 10 -/
  battNew      : Bool
  /-- R58 -/
  svalT        : DWord
  /-- R58 -/
  svalH        : DWord
  /-- R58 -/
  svalP        : DWord
  /-- R61 -/
  shadow       : Word
deriving DecidableEq, Repr, Inhabited

/-- The durable store `DS` of R85: the present keys and their byte strings, keys strictly rising; a key not listed is absent
(R72). -/
abbrev Store := List (Nat × List Byte)

/-- A request the block has issued (R110, R280): its header word and its payload bytes. -/
structure Request where
  hdr     : Word
  payload : List Byte
deriving DecidableEq, Repr, Inhabited

/-- What the request port received (R111): the status, the number and the byte string of a `STORE_GET`. -/
structure Response where
  status : Byte
  data   : DWord
  bytes  : List Byte
deriving DecidableEq, Repr, Inhabited

/-- What the register bus answered in this cycle (R73, R280). -/
inductive BusOut where
  /-- no access -/
  | none
  /-- a read's data, on `BUS_RDATA` -/
  | data (w : Word)
  /-- a write was taken -/
  | ok
  /-- `BusError(addr)`: `BUS_ERR = 1` (R301) -/
  | err (addr : BitVec 12)
deriving DecidableEq, Repr, Inhabited

/-- One thing left to do in the current cycle: the port that carries an instruction and the bits on it (log 1, log 2). -/
inductive Slot where
  /-- a bus access (phase 1 of R89) -/
  | bus (beat : BusBeat)
  /-- an accepted command word (phase 2) -/
  | cmd (w : Word)
  /-- the micro-step at `(STATE, SUBSTEP)` (phase 2) -/
  | fsm
  /-- a transaction on the request port (log 26) -/
  | req (hdr : Word) (payload : List Byte)
  /-- a stimulus word: an input level, the tick strobe, or `POR` -/
  | evt (w : Word)
deriving DecidableEq, Repr, Inhabited

/-- The state of the machine. `aon` and `main` are the block's registers; the rest is what they are wired to (R68) and the model's
own bookkeeping of a cycle. -/
structure State where
  /-- the AON registers -/
  aon        : Aon
  /-- the MAIN registers -/
  main       : Main
  /-- the configuration (R8); no step changes it -/
  cfg        : Cfg
  /-- the durable store (R85) -/
  ds         : Store
  /-- the level of `ASSOC_VALID` (R281) -/
  assocValid : Bool
  /-- the level of `RADIO_IDLE` (R281) -/
  radioIdle  : Bool
  /-- whether and what a collaborator answers in this cycle (R260) -/
  ans        : Answer
  /-- the outcome of this cycle's bus access -/
  busOut     : BusOut
  /-- the response received in this cycle -/
  rsp        : Option Response
  /-- the request trace of the run, oldest first (R248) -/
  trace      : List Request
  /-- MODEL: `FSM_EN` at the start of this cycle (R89, R320) -/
  cycEn      : Bool
  /-- MODEL: what is left of this cycle, in the order of R89 -/
  agenda     : List Slot
  /-- MODEL: the inputs of the coming cycles, next first; after them `Config.freeCycle` -/
  inq        : List CycleIn
  /-- MODEL: how many cycles have been opened -/
  cycle      : Nat
deriving DecidableEq, Repr

/-- Why the machine stops. No rule of the spec stops it (R304). -/
inductive Fault where
  /-- Raised by the step when `(STATE, SUBSTEP)` is no micro-step of R200, which R21 and R304 call unreachable. Safe: the model
  stops where the spec has no behaviour. -/
  | unlistedMicroStep (code : Byte)
deriving DecidableEq, Repr

/-- What is given no meaning. -/
inductive Refusal where
  /-- An instruction the model leaves out; none is. Safe. -/
  | notModelled (mnemonic : String)
  /-- Raised by the step when the configuration is not valid: R9, a model refuses it. Safe. -/
  | invalidConfig
  /-- Raised by the step for a stimulus word that R116 does not list; the machine puts none on its agenda. Safe. -/
  | reservedStimulus (w : Word)
  /-- Raised by the step for a request header that R110 says is never emitted, or one whose payload is short. Safe. -/
  | reservedRequest (hdr : Word)
deriving DecidableEq, Repr

/-- What a step or an instruction answers. -/
abbrev Result := Host.Outcome State Fault Refusal

/-! ## Cold reset values (R340) -/

/-- A synchroniser after `POR`. -/
def Sync.cold : Sync := ⟨false, false, false⟩

/-- A channel's bank after `POR`. -/
def AccBank.cold : AccBank where
  total := 0
  pending := 0
  lastEdge := 0
  armed := false
  leValid := false
  pendOvf := false
  totalSat := false
  reportReq := false
  auxSat := false
  sinceRpt := 0
  durEdges := 0
  winCount := 0
  winStart := 0
  lastRate := 0
  sync := Sync.cold

/-- `COMBO` after `POR`. -/
def Combo.cold : Combo := ⟨0, 0, 0, 0, false⟩

/-- The AON registers after `POR`: 0 but for `FSM_EN = 1` and `WAKE_CAUSE = 4`. -/
def Aon.cold : Aon where
  rain := AccBank.cold
  wind := AccBank.cold
  time := 0
  lastVariant := false
  joinPending := false
  frstPend := false
  timerRun := false
  asleep := false
  fsmEn := true
  wakeCause := 4
  wakePend := 0
  wakeArm := 0
  deadline := 0
  btnPress := 0
  combo := Combo.cold
  battMv := 0
  battPct := 0
  battValid := false
  lbtValid := false
  lastBatt := 0
  battAt := 0
  bsync := Sync.cold
  fsync := Sync.cold

/-- The MAIN registers after `POR`, and after a warm reset (R341): all 0. -/
def Main.cold : Main where
  argLo := 0
  argHi := 0
  cmdErr := false
  cmdErrCode := 0
  lastOpc := 0
  cmdCount := 0
  res := {}
  state := 0
  substep := 0
  longSleep := false
  fullPath := false
  assocStored := false
  tryCount := 0
  joinTry := 0
  planArm := 0
  planRetain := false
  sleepDur := 0
  sessionStart := 0
  waitUntil := 0
  battNew := false
  svalT := 0
  svalH := 0
  svalP := 0
  shadow := 0

/-- R347: the launch state for a configuration, store contents and scripted inputs. -/
def State.launch (cfg : Cfg) (ds : Store) (inq : List CycleIn) : State where
  aon := Aon.cold
  main := Main.cold
  cfg := cfg
  ds := ds
  assocValid := false
  radioIdle := false
  ans := ⟨false, 0, 0⟩
  busOut := .none
  rsp := none
  trace := []
  cycEn := true
  agenda := []
  inq := inq
  cycle := 0

/-- The machine right after reset: the cold values of R340, the configuration of log 3, a store with every key absent (log 4), no
scripted input. -/
def State.reset : State := State.launch Config.launchCfg [] []

end Sys2Proof.Machine
end

