-- ==== Sys2Proof/Machine/Flags.lean ====
section
/-! DEFINITION. Narrowing (00_scope.md R11), the status words as the bus reads them (10_state.md), the saturation and report flags
(41_accumulator.md), and the wake-source bits, their priority and codes (30_encoding.md R107, R115; 60_exceptions.md R314). -/

namespace Sys2Proof.Machine

/-! ## Narrowing (R11) -/

/-- R11: `MAX_32`. -/
abbrev max32 : Nat := 2 ^ 32 - 1

/-- R11: `MAX_64`. -/
abbrev max64 : Nat := 2 ^ 64 - 1

/-- R11: `sat_32`. -/
def sat32 (v : Nat) : Word := BitVec.ofNat 32 (min v max32)

/-- R11: `sat_64`. -/
def sat64 (v : Nat) : DWord := BitVec.ofNat 64 (min v max64)

/-- R11: the elapsed ticks `a −₆₄ b`. -/
abbrev elapsed (a b : DWord) : Nat := (a - b).toNat

/-! ## Status words -/

/-- R28: `ACC[c].STATUS`. -/
def AccBank.statusWord (a : AccBank) : Word :=
  (0 : BitVec 26) ++ BitVec.ofBool a.auxSat ++ BitVec.ofBool a.reportReq ++ BitVec.ofBool a.totalSat
    ++ BitVec.ofBool a.pendOvf ++ BitVec.ofBool a.leValid ++ BitVec.ofBool a.armed

/-- R28, R75: a bus write to `STATUS`: each of the W1C bits 2, 3 and 5 written as 1 is cleared. -/
def AccBank.clearStatus (w : Word) (a : AccBank) : AccBank :=
  { a with
    pendOvf := a.pendOvf && !w.getLsbD 2
    totalSat := a.totalSat && !w.getLsbD 3
    auxSat := a.auxSat && !w.getLsbD 5 }

/-- R38: `CMD_STATUS`. -/
def Main.cmdStatusWord (m : Main) : Word :=
  m.cmdCount ++ m.lastOpc ++ (0 : BitVec 4) ++ m.cmdErrCode ++ BitVec.ofBool m.cmdErr

/-- R38: a bus write to `CMD_STATUS` with bit 0 set clears `ERR`, and `ERRCODE` with it. -/
def Main.clearCmdStatus (w : Word) (m : Main) : Main :=
  if w.getLsbD 0 then { m with cmdErr := false, cmdErrCode := 0 } else m

/-- R41: `PSC_STATE`, of both domains. -/
def pscStateWord (a : Aon) (m : Main) : Word :=
  m.joinTry ++ m.tryCount ++ BitVec.ofBool m.assocStored ++ BitVec.ofBool a.asleep ++ BitVec.ofBool a.timerRun
    ++ BitVec.ofBool a.frstPend ++ BitVec.ofBool m.fullPath ++ BitVec.ofBool m.longSleep ++ BitVec.ofBool a.joinPending
    ++ BitVec.ofBool a.lastVariant ++ m.substep ++ m.state

/-- R42: `PSC_CTRL`. -/
def Aon.pscCtrlWord (a : Aon) : Word := (0 : BitVec 31) ++ BitVec.ofBool a.fsmEn

/-- R46: `SLEEP_PLAN`. -/
def Main.sleepPlanWord (m : Main) : Word := (0 : BitVec 27) ++ BitVec.ofBool m.planRetain ++ m.planArm

/-- R53: `COMBO`. -/
def Combo.word (k : Combo) : Word :=
  (0 : BitVec 16) ++ BitVec.ofBool k.valid ++ (0 : BitVec 4) ++ k.rule ++ (0 : BitVec 2) ++ k.pSrc ++ k.hSrc ++ k.tSrc

/-- R55: `BATT_STATUS`, of both domains. -/
def battStatusWord (a : Aon) (m : Main) : Word :=
  (0 : BitVec 21) ++ BitVec.ofBool m.battNew ++ BitVec.ofBool a.lbtValid ++ BitVec.ofBool a.battValid ++ (0 : BitVec 1)
    ++ a.battPct

/-- R52: `INPUTS`; bits 31:5 read 0. DESIGN CHOICE, unsafe: R67 and R328 count `FSYNC.s2` among what the bus can read, R52 and R64 give it no
bit and no word; the model follows R52 and R64, and `FSYNC.s2` is not readable (log 28). -/
def inputsWord (s : State) : Word :=
  (0 : BitVec 27) ++ BitVec.ofBool s.radioIdle ++ BitVec.ofBool s.assocValid ++ BitVec.ofBool s.aon.bsync.s2
    ++ BitVec.ofBool s.aon.wind.sync.s2 ++ BitVec.ofBool s.aon.rain.sync.s2

/-! ## Synchronisers (R35, R62, R150) -/

/-- R150: one shift, the raw level into `s1`. -/
def Sync.shift (level : Bool) (y : Sync) : Sync := ⟨level, y.s1, y.s2⟩

/-- R150: a rising edge, tested after the shift. -/
def Sync.rising (y : Sync) : Bool := y.s2 && !y.s3

/-! ## The accumulator's flag rules -/

/-- R154: an accepted edge's count; at `MAX_32` it is lost and `PEND_OVF` says so. -/
def AccBank.countPending (a : AccBank) : AccBank :=
  if a.pending.toNat = max32 then { a with pendOvf := true } else { a with pending := a.pending + 1 }

/-- R152: whether an edge of an armed channel at `time` is accepted. -/
def AccBank.accepts (refract : Word) (time : DWord) (a : AccBank) : Bool :=
  !a.leValid || decide (refract.toNat ≤ elapsed time a.lastEdge)

/-- R153: what an accepted edge does to its bank. -/
def AccBank.acceptEdge (time : DWord) (a : AccBank) : AccBank :=
  AccBank.countPending { a with lastEdge := time, leValid := true }

/-- R164: the merge into `TOTAL`, saturating. -/
def AccBank.addTotal (d : Word) (a : AccBank) : AccBank :=
  if max64 < a.total.toNat + d.toNat then { a with total := BitVec.ofNat 64 max64, totalSat := true }
  else { a with total := BitVec.ofNat 64 (a.total.toNat + d.toNat) }

/-- R165: the amount since the last report. -/
def AccBank.addSinceRpt (d : Word) (a : AccBank) : AccBank :=
  { a with
    sinceRpt := sat32 (a.sinceRpt.toNat + d.toNat)
    auxSat := a.auxSat || decide (max32 < a.sinceRpt.toNat + d.toNat) }

/-- R165: a merge of at least one edge that brings the amount to the threshold owes a report. A merge never clears the flag. -/
def AccBank.raiseReport (unit thresh : Word) (d : Word) (a : AccBank) : AccBank :=
  { a with
    reportReq := a.reportReq || (decide (0 < d.toNat) && decide (thresh.toNat ≤ a.sinceRpt.toNat * unit.toNat)) }

/-- R166: the durable-cadence counter. -/
def AccBank.addDurEdges (d : Word) (a : AccBank) : AccBank :=
  { a with
    durEdges := sat32 (a.durEdges.toNat + d.toNat)
    auxSat := a.auxSat || decide (max32 < a.durEdges.toNat + d.toNat) }

/-- R166: the rate window's counter. -/
def AccBank.addWinCount (d : Word) (a : AccBank) : AccBank :=
  { a with
    winCount := sat32 (a.winCount.toNat + d.toNat)
    auxSat := a.auxSat || decide (max32 < a.winCount.toNat + d.toNat) }

/-! ## Wake sources -/

/-- R310: the four wake sources. -/
inductive WakeSrc where
  | timer
  | rainEdge
  | windEdge
  | button
deriving DecidableEq, Repr

/-- R115: the bit of a source in `WAKE_PEND`, `WAKE_ARM` and `PLAN_ARM`, as a mask. -/
def WakeSrc.mask : WakeSrc → BitVec 4
  | .timer => 0b0001
  | .rainEdge => 0b0010
  | .windEdge => 0b0100
  | .button => 0b1000

/-- R107, R314: the `WakeEvent` code of a source. -/
def WakeSrc.code : WakeSrc → BitVec 3
  | .timer => 0
  | .rainEdge => 1
  | .windEdge => 2
  | .button => 3

/-- R107: `COLD_RESET`. -/
def coldReset : BitVec 3 := 4

/-- R115: the source of a channel's edges, bit `1 + c`. -/
def edgeSource : Channel → WakeSrc
  | .rain => .rainEdge
  | .wind => .windEdge

/-- R314: button, then timer, then rain, then wind; for a mask that is not 0. -/
def pri (m : BitVec 4) : WakeSrc :=
  if m.getLsbD 3 then .button
  else if m.getLsbD 0 then .timer
  else if m.getLsbD 1 then .rainEdge
  else .windEdge

/-- R310: a source's latch set. -/
def setLatch (k : WakeSrc) (pend : BitVec 4) : BitVec 4 := pend ||| k.mask

/-- R241: a source's latch cleared. -/
def clearLatch (k : WakeSrc) (pend : BitVec 4) : BitVec 4 := pend &&& ~~~k.mask

end Sys2Proof.Machine
end

