-- ==== Sys2Proof/Machine/Ops.lean ====
section
/-! DEFINITION. The named operations of the block: the durable store (20_memory.md), the accumulator (41_accumulator.md), the
request port (43_interfaces.md), taking an error (60_exceptions.md R300, R301), wake entry (R315), the resets
(70_reset_and_hazards.md R340, R341) and the control transfer `goto S.k` (00_scope.md R12). -/

namespace Sys2Proof.Machine

/-! ## Configuration (R8, R9) -/

/-- R8: `Cfg.REFRACT[c]`. -/
def refractOf (g : Cfg) : Channel → Word
  | .rain => g.refractRain
  | .wind => g.refractWind

/-- R8: `Cfg.UNIT[c]`. -/
def unitOf (g : Cfg) : Channel → Word
  | .rain => g.unitRain
  | .wind => g.unitWind

/-- R8: `Cfg.THRESH[c]`. -/
def threshOf (g : Cfg) : Channel → Word
  | .rain => g.threshRain
  | .wind => g.threshWind

/-- R9: the valid configurations. -/
def cfgValid (g : Cfg) : Bool :=
  decide (1 ≤ g.joinAttempts.toNat) && decide (1 ≤ g.durableN.toNat) && decide (1 ≤ g.armRetryDelay.toNat)
    && decide (1 ≤ g.tickHz.toNat) && decide (g.battLoMv.toNat < g.battHiMv.toNat)
    && decide (g.sleepInterval.toNat < g.joinFailInterval.toNat) && decide (1 ≤ g.sleepInterval.toNat)

/-! ## The durable store (R72, R85 to R88) -/

/-- R72: the value of a key; an unlisted key is absent. -/
def Store.get (key : Nat) : Store → Option (List Byte)
  | [] => none
  | (k, v) :: rest => if k = key then some v else Store.get key rest

/-- R85: the key's value replaced, keys kept strictly rising. -/
def Store.set (key : Nat) (bytes : List Byte) : Store → Store
  | [] => [(key, bytes)]
  | (k, v) :: rest =>
    if key < k then (key, bytes) :: (k, v) :: rest
    else if key = k then (key, bytes) :: rest
    else (k, v) :: Store.set key bytes rest

/-- The canonical form above a bound: keys strictly rising and below 256, values of at most 255 bytes (R72). -/
def Store.wfFrom (bound : Nat) : Store → Bool
  | [] => true
  | (k, v) :: rest => decide (bound ≤ k) && decide (k < 256) && decide (v.length ≤ 255) && Store.wfFrom (k + 1) rest

/-- The canonical form of the store. Equal stores are equal lists. -/
def Store.wf (m : Store) : Bool := Store.wfFrom 0 m

/-- R86: `KEY_TOTAL[c]`. -/
def keyTotal : Channel → Byte
  | .rain => 0x01
  | .wind => 0x02

/-- R86: `KEY_ASSOC`. -/
def keyAssoc : Byte := 0x10

/-- R88: `decode_total`: eight bytes, little-endian; anything else is 0. -/
def decodeTotal : Option (List Byte) → DWord
  | some bytes =>
    match takeDWord bytes with
    | some (v, []) => v
    | _ => 0
  | none => 0

/-- R88: `decode_assoc`: the one byte 0x01; anything else is 0. -/
def decodeAssoc : Option (List Byte) → Bool
  | some [b] => b == 0x01
  | _ => false

/-! ## Channels -/

/-- `ACC[c]` (R24). -/
def State.acc (s : State) : Channel → AccBank
  | .rain => s.aon.rain
  | .wind => s.aon.wind

/-- `ACC[c]` written. -/
def State.setAcc (c : Channel) (a : AccBank) (s : State) : State :=
  match c with
  | .rain => { s with aon := { s.aon with rain := a } }
  | .wind => { s with aon := { s.aon with wind := a } }

/-! ## The accumulator operations (R155, R162 to R174) -/

/-- R155: `on_edge(c)`: ignored while not armed, discarded inside the refractory window, else accepted and its wake latch set. -/
def onEdge (c : Channel) (s : State) : State :=
  let a := s.acc c
  if a.armed && a.accepts (refractOf s.cfg c) s.aon.time then
    let s := s.setAcc c (a.acceptEdge s.aon.time)
    { s with aon := { s.aon with wakePend := setLatch (edgeSource c) s.aon.wakePend } }
  else s

/-- R163: `merge(c, d)`: the total, then the since-report amount and its flag, then the two counters. -/
def AccBank.merge (unit thresh : Word) (d : Word) (a : AccBank) : AccBank :=
  (((a.addTotal d).addSinceRpt d).raiseReport unit thresh d |>.addDurEdges d).addWinCount d

/-- R163: `FLUSH` on a bank: `PENDING` swapped with 0 (R162) and merged. -/
def AccBank.flush (unit thresh : Word) (a : AccBank) : AccBank :=
  AccBank.merge unit thresh a.pending { a with pending := 0 }

/-- R163: `CMD_FLUSH(c)`: the delta and the state after it. -/
def cmdFlush (c : Channel) (s : State) : Word × State :=
  ((s.acc c).pending, s.setAcc c ((s.acc c).flush (unitOf s.cfg c) (threshOf s.cfg c)))

/-- R168: `CMD_ARM(c)`. -/
def cmdArm (c : Channel) (s : State) : State := s.setAcc c { s.acc c with armed := true }

/-- R169: `RESET_TO` on a bank. -/
def AccBank.resetTo (v : DWord) (a : AccBank) : AccBank :=
  { a with total := v, sinceRpt := 0, durEdges := 0, reportReq := false, totalSat := false }

/-- R169: `CMD_RESET_TO(c, v)`. -/
def cmdResetTo (c : Channel) (v : DWord) (s : State) : State := s.setAcc c ((s.acc c).resetTo v)

/-- R174: `CMD_ACK_REPORT(c)`. -/
def cmdAckReport (c : Channel) (s : State) : State :=
  s.setAcc c { s.acc c with reportReq := false, sinceRpt := 0 }

/-- R172: the rate in µu per tick: edges times unit over elapsed ticks, rounded toward zero; 0 when no tick has passed. -/
def rate (n unit : Word) (el : DWord) : DWord :=
  if el.toNat = 0 then 0 else sat64 (n.toNat * unit.toNat / el.toNat)

/-- R172: what `SAMPLE_RATE` returns. -/
structure RateSample where
  delta   : Word
  count   : Word
  elapsed : DWord
  rate    : DWord
deriving DecidableEq, Repr

/-- R172: `CMD_SAMPLE_RATE(c)`: flush, then the window's count and length, its rate, and a new window. -/
def cmdSampleRate (c : Channel) (s : State) : RateSample × State :=
  let (d, s) := cmdFlush c s
  let a := s.acc c
  let el := s.aon.time - a.winStart
  let r := rate a.winCount (unitOf s.cfg c) el
  (⟨d, a.winCount, el, r⟩, s.setAcc c { a with lastRate := r, winCount := 0, winStart := s.aon.time })

/-- R246: `factory_clear(c)`. -/
def factoryClear (c : Channel) (s : State) : State :=
  let s := cmdResetTo c 0 s
  s.setAcc c { s.acc c with pending := 0, winCount := 0, winStart := s.aon.time, lastRate := 0 }

/-! ## Errors, taken (R300, R301) -/

/-- R106: the command errors. -/
inductive CmdErr where
  | illegalOpcode
  | reservedBits
  | rejected
deriving DecidableEq, Repr

/-- R106: `ERRCODE` values. -/
def CmdErr.code : CmdErr → BitVec 3
  | .illegalOpcode => 1
  | .reservedBits => 2
  | .rejected => 3

/-- R300: `CmdError(code)`: `ERR` and `ERRCODE`, the most recent refusal winning; nothing else changes and the block goes on. -/
def takeCmdError (e : CmdErr) (s : State) : State :=
  { s with main := { s.main with cmdErr := true, cmdErrCode := e.code } }

/-- R301: `BusError(addr)`: `BUS_ERR` in this cycle; no register changes. -/
def takeBusError (addr : BitVec 12) (s : State) : State := { s with busOut := .err addr }

/-- R103: the decode order of a bus-issued command word; the mode is the one at the start of the cycle (R160). -/
def commandError (fsmEn : Bool) (w : Word) : Option CmdErr :=
  if fsmEn then some .rejected
  else if w.extractLsb' 9 23 ≠ 0 then some .reservedBits
  else if 6 < (w.extractLsb' 0 8).toNat then some .illegalOpcode
  else none

/-- R160: what an accepted bus-issued command records after its effect. -/
def acceptCommand (opc : Byte) (res : Results) (s : State) : State :=
  { s with main := { s.main with lastOpc := opc, cmdCount := s.main.cmdCount + 1, res := res } }

/-! ## Control (R12, R21, R108) -/

/-- R108: the controller states. -/
inductive PscState where
  | boot
  | joinNetwork
  | activeSession
  | enterSleep
  | sleeping
  | wake
  | factoryReset
deriving DecidableEq, Repr

/-- R108: their codes. -/
def PscState.code : PscState → BitVec 3
  | .boot => 0
  | .joinNetwork => 1
  | .activeSession => 2
  | .enterSleep => 3
  | .sleeping => 4
  | .wake => 5
  | .factoryReset => 6

/-- R12: `goto S.k`. -/
def goto (st : PscState) (k : BitVec 5) (s : State) : State :=
  { s with main := { s.main with state := st.code, substep := k } }

/-- R200, R260: the micro-step is not enabled in this cycle: the FSM holds and nothing of it changes. -/
def hold (s : State) : Result := .next s

/-- R66, R76: the block is in a DEEP suspension. -/
def deepAsleep (s : State) : Bool := s.aon.asleep && s.aon.lastVariant

/-! ## The request port (R260 to R271) -/

/-- R260: a request is issued; a fire-and-forget request is this alone. -/
def emit (k : ReqKind) (a b : Byte) (payload : List Byte) (s : State) : State :=
  { s with trace := s.trace ++ [⟨requestHeader k a b, payload⟩] }

/-- R111: a status is `OK` when it is 0; every other status is read as `ERR`. -/
def statusOk (r : Response) : Bool := r.status == 0

/-- The response to a request: the store's value for a `STORE_GET` (R263, R111), what the collaborator answers for the rest. -/
def responseTo (k : ReqKind) (a : Byte) (s : State) : Response :=
  match k with
  | .storeGet =>
    match Store.get a.toNat s.ds with
    | some bytes => ⟨0, 0, bytes⟩
    | none => ⟨1, 0, []⟩
  | _ => ⟨s.ans.status, s.ans.data, []⟩

/-- R85, R264: a `STORE_SET` that is answered `OK` replaces the key's value; any other answer leaves it. -/
def storeEffect (k : ReqKind) (a : Byte) (payload : List Byte) (r : Response) (m : Store) : Store :=
  if k = .storeSet ∧ statusOk r then Store.set a.toNat payload m else m

/-- R260: a response-bearing request, atomic with its response; `none` while the collaborator does not answer. -/
def transact (k : ReqKind) (a b : Byte) (payload : List Byte) (s : State) : Option (Response × State) :=
  if s.ans.ready then
    let r := responseTo k a s
    let s := emit k a b payload s
    some (r, { s with ds := storeEffect k a payload r s.ds, rsp := some r })
  else none

/-- R261: `Req(JOIN)`; whether it answered `OK`. -/
def reqJoin (s : State) : Option (Bool × State) :=
  (transact .join 0 0 [] s).map fun (r, s) => (statusOk r, s)

/-- R263: `Req(STORE_GET, key)`: the bytes, or absent. -/
def reqStoreGet (key : Byte) (s : State) : Option (Option (List Byte) × State) :=
  (transact .storeGet key 0 [] s).map fun (r, s) => (if statusOk r then some r.bytes else none, s)

/-- R264: `Req(STORE_SET, key, bytes)`, the length in `B`; whether it answered `OK`. -/
def reqStoreSet (key : Byte) (bytes : List Byte) (s : State) : Option (Bool × State) :=
  (transact .storeSet key (BitVec.ofNat 8 bytes.length) bytes s).map fun (r, s) => (statusOk r, s)

/-- R111, R265: the answers of a probe. -/
inductive ProbeAnswer where
  | found
  | mismatch
  | busErr
deriving DecidableEq, Repr

/-- R111: 0 is `MATCH`, 1 is `MISMATCH`, every other status is read as `BUSERR`. -/
def probeAnswer (r : Response) : ProbeAnswer :=
  if r.status = 0 then .found else if r.status = 1 then .mismatch else .busErr

/-- R265: `Req(PROBE, device)`. -/
def reqProbe (dev : Byte) (s : State) : Option (ProbeAnswer × State) :=
  (transact .probe dev 0 [] s).map fun (r, s) => (probeAnswer r, s)

/-- R266: `Req(SENSOR_READ, device, quantity)`: the value of an `OK`. -/
def reqSensorRead (dev q : Byte) (s : State) : Option (Option DWord × State) :=
  (transact .sensorRead dev q [] s).map fun (r, s) => (if statusOk r then some r.data else none, s)

/-- R268: `Req(BATT_SAMPLE)`: the millivolts of an `OK`, a u32 in the low bits of `RSP_DATA` (log 16). -/
def reqBattSample (s : State) : Option (Option Word × State) :=
  (transact .battSample 0 0 [] s).map fun (r, s) => (if statusOk r then some (r.data.extractLsb' 0 32) else none, s)

/-- R114: the code of a sleep variant; true is DEEP. -/
def variantCode (deep : Bool) : Byte := if deep then 1 else 0

/-- R269: `Req(WAKE_CFG, PLAN_ARM, variant, SLEEP_DUR)`; whether it answered `OK`. -/
def reqWakeCfg (arm : BitVec 4) (deep : Bool) (dur : Word) (s : State) : Option (Bool × State) :=
  (transact .wakeCfg (arm.setWidth 8) (variantCode deep) (wordBytes dur) s).map fun (r, s) => (statusOk r, s)

/-- R262: `Req(REPORT, channel, value)`. -/
def report (ch : Byte) (value : DWord) (s : State) : State := emit .report ch 0 (le64 value) s

/-- R230, R270: `Req(SET_LEVEL, p, 0)` for each gate pin in list order. -/
def gatesLow (pins : List Byte) (s : State) : State :=
  pins.foldl (fun s p => emit .setLevel p 0 [] s) s

/-! ## Suspension, wake entry and resets -/

/-- R237: the suspension in a variant (true is DEEP): the variant, the join that DEEP owes, `ASLEEP`, and the request. DESIGN CHOICE, unsafe:
R240 and C12 of 90_conflicts.md say that `FSM_EN` is 1 in DEEP, so a write of 0 in the very cycle of the suspension, which would act from
the next cycle (R320), does not outlast it (log 20). -/
def suspend (deep : Bool) (s : State) : State :=
  goto .sleeping 0 (emit .sleepReq (variantCode deep) 0 []
    { s with aon := { s.aon with
        lastVariant := deep, joinPending := s.aon.joinPending || deep, asleep := true, fsmEn := s.aon.fsmEn || deep } })

/-- R315, R240, R241: the dispatch of a source: its `WakeEvent` saved, its latch consumed. -/
def dispatchWake (k : WakeSrc) (s : State) : State :=
  { s with aon := { s.aon with wakeCause := k.code, wakePend := clearLatch k s.aon.wakePend } }

/-- R237, R240, R241: the armed latches that are set. -/
def armedPending (s : State) : BitVec 4 := s.aon.wakePend &&& s.aon.wakeArm

/-- R341: `warm_reset()`: every MAIN register to its warm value, which ends at `BOOT.0`; every AON register kept. -/
def warmReset (s : State) : State := { s with main := Main.cold }

/-- R340, R285: cold reset: every register to its cold value. Kept: what is not a register of the block (R68), the durable store
with it (R85). Nothing else happens in the cycle (log 9). -/
def porReset (s : State) : State := { s with aon := Aon.cold, main := Main.cold, agenda := [] }

/-! ## Rules of the session and of sleep entry -/

/-- R206: `backoff(k)` for the k-th failure, k at least 1. -/
def backoff (g : Cfg) (k : Nat) : Nat := min (g.joinBackoff.toNat * 2 ^ (k - 1)) max32

/-- R206: `join_failed()`. -/
def joinFailed (s : State) : State :=
  let n := s.main.joinTry.toNat + 1
  let s := { s with main := { s.main with joinTry := BitVec.ofNat 8 n } }
  if n < s.cfg.joinAttempts.toNat then
    goto .joinNetwork 1
      { s with main := { s.main with waitUntil := sat64 (s.aon.time.toNat + backoff s.cfg n) } }
  else
    goto .enterSleep 0
      { s with
        aon := { s.aon with joinPending := true }
        main := { s.main with longSleep := true } }

/-- R136: `set_combo(k)` for a rule 1 to 4 of the table of R132. -/
def comboOf (k : BitVec 3) : Combo :=
  if k = 1 then ⟨1, 1, 1, 1, true⟩
  else if k = 2 then ⟨2, 2, 3, 2, true⟩
  else if k = 3 then ⟨2, 2, 0, 3, true⟩
  else ⟨0, 0, 0, 4, true⟩

/-- R136: the write of `COMBO`. -/
def setCombo (k : BitVec 3) (s : State) : State := { s with aon := { s.aon with combo := comboOf k } }

/-- `TRY` written. -/
def setTry (n : Byte) (s : State) : State := { s with main := { s.main with tryCount := n } }

/-- R134, R135, R138: after a `BUSERR` or a failed read: another attempt at the same micro-step while `TRY < PROBE_RETRIES`. -/
def retriesLeft (s : State) : Bool := decide (s.main.tryCount.toNat < s.cfg.probeRetries.toNat)

/-- R214: `batt_due`. -/
def battDue (s : State) : Bool :=
  !s.aon.lbtValid || decide (s.cfg.battInterval.toNat ≤ elapsed s.aon.time s.aon.lastBatt)

/-- R215: `pct(mv)`, rounded to nearest, halves up. -/
def pct (g : Cfg) (mv : Word) : BitVec 7 :=
  let lo := g.battLoMv.toNat
  let hi := g.battHiMv.toNat
  if mv.toNat ≤ lo then 0
  else if hi ≤ mv.toNat then 100
  else BitVec.ofNat 7 ((200 * (mv.toNat - lo) + (hi - lo)) / (2 * (hi - lo)))

/-- R216: the attempt is stamped, and a successful sample replaces the previous one. -/
def recordSample (mv : Option Word) (s : State) : State :=
  let s := { s with aon := { s.aon with lastBatt := s.aon.time, lbtValid := true } }
  match mv with
  | some mv =>
    { s with
      aon := { s.aon with battMv := mv, battPct := pct s.cfg mv, battValid := true, battAt := s.aon.time }
      main := { s.main with battNew := true } }
  | none => s

/-- R217: the quantities of the sensor reads. -/
inductive Quantity where
  | temperature
  | humidity
  | pressure
deriving DecidableEq, Repr

/-- R113: quantity codes. -/
def Quantity.code : Quantity → Byte
  | .temperature => 0
  | .humidity => 1
  | .pressure => 2

/-- R217: `src_q`. -/
def sourceOf (k : Combo) : Quantity → BitVec 2
  | .temperature => k.tSrc
  | .humidity => k.hSrc
  | .pressure => k.pSrc

/-- R217: `SENT_q`. -/
def sentinelOf (g : Cfg) : Quantity → DWord
  | .temperature => g.sentinelT
  | .humidity => g.sentinelH
  | .pressure => g.sentinelP

/-- R217: `SVAL_q` written. -/
def setSval (q : Quantity) (v : DWord) (s : State) : State :=
  match q with
  | .temperature => { s with main := { s.main with svalT := v } }
  | .humidity => { s with main := { s.main with svalH := v } }
  | .pressure => { s with main := { s.main with svalP := v } }

/-- R233: `persist_due(c)`. -/
def persistDue (c : Channel) (s : State) : Bool :=
  let n := (s.acc c).durEdges.toNat
  decide (0 < n) && (decide (s.cfg.durableN.toNat ≤ n) || s.main.fullPath)

/-- R234: `av`: the association is valid and no join is owed. -/
def associationHolds (s : State) : Bool := s.assocValid && !s.aon.joinPending

/-- R234: the deadline restarted when the timer is not running or a long sleep is due. -/
def restartTimer (s : State) : State :=
  if !s.aon.timerRun || s.main.longSleep then
    let ticks := if s.main.longSleep then s.cfg.joinFailInterval else s.cfg.sleepInterval
    { s with aon := { s.aon with deadline := sat64 (s.aon.time.toNat + ticks.toNat), timerRun := true } }
  else s

/-- R234: `SLEEP_DUR` from the deadline: the ticks that remain, 0 when it has passed. -/
def remainingTicks (a : Aon) : Word :=
  if a.time.toNat < a.deadline.toNat then sat32 (a.deadline.toNat - a.time.toNat) else 0

/-- R234: the `SleepPlan`. -/
def buildPlan (s : State) : State :=
  let av := associationHolds s
  let s := restartTimer s
  { s with
    main := { s.main with
      planArm := if av then 0b1111 else 0b0001
      planRetain := av
      longSleep := false
      sleepDur := remainingTicks s.aon } }

/-- R219, R220, R245: a total's report when one is owed, and its acknowledgement. -/
def reportTotal (c : Channel) (s : State) : State :=
  if (s.acc c).reportReq then cmdAckReport c (report (if channelBit c then 1 else 0) (s.acc c).total s) else s

/-- R243, R245: the channel whose edge woke the block. -/
def wokenChannel (s : State) : Channel := if s.aon.wakeCause = WakeSrc.rainEdge.code then .rain else .wind

end Sys2Proof.Machine
end

