-- ==== Sys2Proof/Machine/Boot.lean ====
section
/-! DEFINITION. The micro-steps of `BOOT` and `JOIN_NETWORK` (42_power_fsm.md R201 to R208). -/

namespace Sys2Proof.Machine

/-- `BOOT.0` (R201): on a cold reset the stored rain total is loaded; else the retained totals stand. DEDUCED, unsafe: after a factory
reset with no wake dispatched since `POR` the cause still is `COLD_RESET` (R202, R346), so a total whose `STORE_SET` failed is loaded at this
restart, although R247 says that only a later `POR` loads it; the model follows R201 (log 29). -/
def execBoot0 (s : State) : Result :=
  if s.aon.wakeCause = coldReset then
    match reqStoreGet (keyTotal .rain) s with
    | some (r, s) => .next (goto .boot 1 (cmdResetTo .rain (decodeTotal r) s))
    | none => hold s
  else .next (goto .boot 3 s)

/-- `BOOT.1` (R201): the stored wind total. -/
def execBoot1 (s : State) : Result :=
  match reqStoreGet (keyTotal .wind) s with
  | some (r, s) => .next (goto .boot 2 (cmdResetTo .wind (decodeTotal r) s))
  | none => hold s

/-- `BOOT.2` (R203): the stored association. -/
def execBoot2 (s : State) : Result :=
  match reqStoreGet keyAssoc s with
  | some (r, s) => .next (goto .boot 3 { s with main := { s.main with assocStored := decodeAssoc r } })
  | none => hold s

/-- `BOOT.3` (R204): both channels armed, then the dispatch. -/
def execBoot3 (s : State) : Result :=
  let s := cmdArm .wind (cmdArm .rain s)
  if (s.aon.wakeCause = coldReset ∧ s.main.assocStored = false) ∨ s.aon.joinPending = true then
    .next (goto .joinNetwork 0 { s with main := { s.main with joinTry := 0 } })
  else .next (goto .activeSession 0 s)

/-- `JOIN.0` (R205): one join attempt. -/
def execJoin0 (s : State) : Result :=
  match reqJoin s with
  | some (ok, s) => .next (if ok then goto .joinNetwork 2 s else joinFailed s)
  | none => hold s

/-- `JOIN.1` (R207): the backoff wait. -/
def execJoin1 (s : State) : Result :=
  if s.main.waitUntil.toNat ≤ s.aon.time.toNat then .next (goto .joinNetwork 0 s) else hold s

/-- `JOIN.2` (R208): join success; the store's answer is tolerated whatever it is. -/
def execJoin2 (s : State) : Result :=
  match reqStoreSet keyAssoc [0x01] s with
  | some (_, s) =>
    .next (goto .activeSession 0
      { s with
        aon := { s.aon with joinPending := false }
        main := { s.main with assocStored := true } })
  | none => hold s

end Sys2Proof.Machine
end

