-- ==== Sys2Proof/Machine/Operands.lean ====
section
/-! DEFINITION. The operands of a bus access: the register map (10_state.md R64), what a read returns and does (20_memory.md R75,
R79, R80), and what a write does by access type (R23, R75, R81). -/

namespace Sys2Proof.Machine

/-- The 64-bit registers, each read as a pair of words (R79). -/
inductive Wide where
  | total (c : Channel)
  | lastEdge (c : Channel)
  | winStart (c : Channel)
  | lastRate (c : Channel)
  | time
  | deadline
  | sessionStart
  | waitUntil
  | btnPress
  | lastBatt
  | battAt
  | svalT
  | svalH
  | svalP
deriving DecidableEq, Repr

/-- The words of the register map (R64). -/
inductive Reg where
  | lo (x : Wide)
  | hi (x : Wide)
  | pending (c : Channel)
  | status (c : Channel)
  | refract (c : Channel)
  | unit (c : Channel)
  | thresh (c : Channel)
  | sinceRpt (c : Channel)
  | durEdges (c : Channel)
  | winCount (c : Channel)
  | cmd
  | argLo
  | argHi
  | cmdStatus
  | res0
  | res1
  | res2
  | res3
  | res4
  | res5
  | pscState
  | pscCtrl
  | wakeCause
  | wakePend
  | wakeArm
  | sleepPlan
  | sleepDur
  | id
  | inputs
  | combo
  | battMv
  | battStatus
  | cfgTickHz
  | cfgSleepInterval
  | cfgJoinFailInterval
  | cfgBattInterval
  | cfgBtnHold
  | cfgActiveTimeout
  | cfgJoinAttempts
  | cfgJoinBackoff
  | cfgProbeRetries
  | cfgDurableN
  | cfgArmRetryDelay
  | cfgBattLoMv
  | cfgBattHiMv
  | cfgGatePins
  | cfgReserved
deriving DecidableEq, Repr

/-- R24: `CH_BASE(c)`. -/
def chBase : Channel → Nat
  | .rain => 0x000
  | .wind => 0x040

/-- R64: a channel bank's sixteen words. -/
def bankMap (c : Channel) : List (Nat × Reg) :=
  [ (chBase c + 0x00, .lo (.total c)), (chBase c + 0x04, .hi (.total c)), (chBase c + 0x08, .pending c),
    (chBase c + 0x0C, .lo (.lastEdge c)), (chBase c + 0x10, .hi (.lastEdge c)), (chBase c + 0x14, .status c),
    (chBase c + 0x18, .refract c), (chBase c + 0x1C, .unit c), (chBase c + 0x20, .thresh c),
    (chBase c + 0x24, .sinceRpt c), (chBase c + 0x28, .durEdges c), (chBase c + 0x2C, .winCount c),
    (chBase c + 0x30, .lo (.winStart c)), (chBase c + 0x34, .hi (.winStart c)),
    (chBase c + 0x38, .lo (.lastRate c)), (chBase c + 0x3C, .hi (.lastRate c)) ]

/-- R64: the global registers, 0x100 to 0x1A4. -/
def globalMap : List (Nat × Reg) :=
  [ (0x100, .cmd), (0x104, .argLo), (0x108, .argHi), (0x10C, .cmdStatus),
    (0x110, .res0), (0x114, .res1), (0x118, .res2), (0x11C, .res3), (0x120, .res4), (0x124, .res5),
    (0x128, .lo .time), (0x12C, .hi .time), (0x130, .pscState), (0x134, .pscCtrl), (0x138, .wakeCause),
    (0x13C, .wakePend), (0x140, .wakeArm), (0x144, .sleepPlan), (0x148, .sleepDur), (0x14C, .id),
    (0x150, .lo .deadline), (0x154, .hi .deadline), (0x158, .lo .sessionStart), (0x15C, .hi .sessionStart),
    (0x160, .lo .waitUntil), (0x164, .hi .waitUntil), (0x168, .lo .btnPress), (0x16C, .hi .btnPress),
    (0x170, .inputs), (0x174, .combo), (0x178, .battMv), (0x17C, .battStatus),
    (0x180, .lo .lastBatt), (0x184, .hi .lastBatt), (0x188, .lo .battAt), (0x18C, .hi .battAt),
    (0x190, .lo .svalT), (0x194, .hi .svalT), (0x198, .lo .svalH), (0x19C, .hi .svalH),
    (0x1A0, .lo .svalP), (0x1A4, .hi .svalP) ]

/-- R60, R64: the configuration window, 0x200 to 0x23C. -/
def configMap : List (Nat × Reg) :=
  [ (0x200, .cfgTickHz), (0x204, .cfgSleepInterval), (0x208, .cfgJoinFailInterval), (0x20C, .cfgBattInterval),
    (0x210, .cfgBtnHold), (0x214, .cfgActiveTimeout), (0x218, .cfgJoinAttempts), (0x21C, .cfgJoinBackoff),
    (0x220, .cfgProbeRetries), (0x224, .cfgDurableN), (0x228, .cfgArmRetryDelay), (0x22C, .cfgBattLoMv),
    (0x230, .cfgBattHiMv), (0x234, .cfgGatePins), (0x238, .cfgReserved), (0x23C, .cfgReserved) ]

/-- R64: the complete register map. -/
def regMap : List (Nat × Reg) := bankMap .rain ++ bankMap .wind ++ globalMap ++ configMap

/-- The register at a byte address of a map, if the map lists the address. -/
def lookupReg (addr : Nat) : List (Nat × Reg) → Option Reg
  | [] => none
  | (a, r) :: rest => if a = addr then some r else lookupReg addr rest

/-- R73, R74: the register an access reaches; `none` when the access raises `BusError`: a size other than 4, a misaligned or
unmapped address, or a DEEP suspension (R76). -/
def busTarget (addr : BitVec 12) (size : BitVec 3) (s : State) : Option Reg :=
  if size ≠ 4 then none
  else if addr.extractLsb' 0 2 ≠ 0 then none
  else if deepAsleep s then none
  else lookupReg addr.toNat regMap

/-- The value of a 64-bit register. -/
def wideValue (s : State) : Wide → DWord
  | .total c => (s.acc c).total
  | .lastEdge c => (s.acc c).lastEdge
  | .winStart c => (s.acc c).winStart
  | .lastRate c => (s.acc c).lastRate
  | .time => s.aon.time
  | .deadline => s.aon.deadline
  | .sessionStart => s.main.sessionStart
  | .waitUntil => s.main.waitUntil
  | .btnPress => s.aon.btnPress
  | .lastBatt => s.aon.lastBatt
  | .battAt => s.aon.battAt
  | .svalT => s.main.svalT
  | .svalH => s.main.svalH
  | .svalP => s.main.svalP

/-- R75, R79: what a read of a word returns: the register's current value with reserved bits 0; `CMD` reads 0; every `*_HI` word
reads `SHADOW`. -/
def regValue (s : State) : Reg → Word
  | .lo x => (wideValue s x).extractLsb' 0 32
  | .hi _ => s.main.shadow
  | .pending c => (s.acc c).pending
  | .status c => (s.acc c).statusWord
  | .refract c => refractOf s.cfg c
  | .unit c => unitOf s.cfg c
  | .thresh c => threshOf s.cfg c
  | .sinceRpt c => (s.acc c).sinceRpt
  | .durEdges c => (s.acc c).durEdges
  | .winCount c => (s.acc c).winCount
  | .cmd => 0
  | .argLo => s.main.argLo
  | .argHi => s.main.argHi
  | .cmdStatus => s.main.cmdStatusWord
  | .res0 => s.main.res.r0
  | .res1 => s.main.res.r1
  | .res2 => s.main.res.r2
  | .res3 => s.main.res.r3
  | .res4 => s.main.res.r4
  | .res5 => s.main.res.r5
  | .pscState => pscStateWord s.aon s.main
  | .pscCtrl => s.aon.pscCtrlWord
  | .wakeCause => s.aon.wakeCause.setWidth 32
  | .wakePend => s.aon.wakePend.setWidth 32
  | .wakeArm => s.aon.wakeArm.setWidth 32
  | .sleepPlan => s.main.sleepPlanWord
  | .sleepDur => s.main.sleepDur
  | .id => 0x43410001
  | .inputs => inputsWord s
  | .combo => s.aon.combo.word
  | .battMv => s.aon.battMv
  | .battStatus => battStatusWord s.aon s.main
  | .cfgTickHz => s.cfg.tickHz
  | .cfgSleepInterval => s.cfg.sleepInterval
  | .cfgJoinFailInterval => s.cfg.joinFailInterval
  | .cfgBattInterval => s.cfg.battInterval
  | .cfgBtnHold => s.cfg.btnHold
  | .cfgActiveTimeout => s.cfg.activeTimeout
  | .cfgJoinAttempts => s.cfg.joinAttempts.setWidth 32
  | .cfgJoinBackoff => s.cfg.joinBackoff
  | .cfgProbeRetries => s.cfg.probeRetries.setWidth 32
  | .cfgDurableN => s.cfg.durableN
  | .cfgArmRetryDelay => s.cfg.armRetryDelay
  | .cfgBattLoMv => s.cfg.battLoMv
  | .cfgBattHiMv => s.cfg.battHiMv
  -- bits 7:0 of the length (log 22)
  | .cfgGatePins => (BitVec.ofNat 8 s.cfg.gatePins.length).setWidth 32
  | .cfgReserved => 0

/-- R79, R80: the one side effect of a read: a `*_LO` read latches the high half into `SHADOW`. -/
def latchShadow (r : Reg) (s : State) : State :=
  match r with
  | .lo x => { s with main := { s.main with shadow := (wideValue s x).extractLsb' 32 32 } }
  | _ => s

/-- R75, R79: a legal read. -/
def readReg (r : Reg) (s : State) : State :=
  let s' := latchShadow r s
  { s' with busOut := .data (regValue s r) }

/-- R81, R103, R160: a write to `CMD`: refused with its code, or the command is the next thing the cycle does (step 2 of R89). -/
def issueCommand (w : Word) (s : State) : State :=
  match commandError s.cycEn w with
  | some e => takeCmdError e s
  | none => { s with agenda := .cmd w :: s.agenda }

/-- R75, R81: what a legal write does to the register it reaches: the RW words, the W1C bits, the command port; a write to a
read-only word is ignored. -/
def writeEffect (r : Reg) (w : Word) (s : State) : State :=
  match r with
  | .argLo => { s with main := { s.main with argLo := w } }
  | .argHi => { s with main := { s.main with argHi := w } }
  | .pscCtrl => { s with aon := { s.aon with fsmEn := w.getLsbD 0 } }
  | .status c => s.setAcc c ((s.acc c).clearStatus w)
  | .cmdStatus => { s with main := s.main.clearCmdStatus w }
  | .cmd => issueCommand w s
  | _ => s

/-- R75: a legal write; it completes without `BusError` whatever the command port says (R300). -/
def writeReg (r : Reg) (w : Word) (s : State) : State :=
  let s' := writeEffect r w s
  { s' with busOut := .ok }

end Sys2Proof.Machine
end

