-- ==== Sys2Proof/Machine/Bus.lean ====
section
/-! DEFINITION. The register-bus accesses (20_memory.md R73 to R81). -/

namespace Sys2Proof.Machine

/-- `MemRead(addr, size)` (R73, R74, R75, R79). -/
def execBusRd (addr : BitVec 12) (size : BitVec 3) (s : State) : Result :=
  match busTarget addr size s with
  | some r => .next (readReg r s)
  | none => .next (takeBusError addr s)

/-- `MemWrite(addr, size, data)` (R73, R74, R75, R81). -/
def execBusWr (addr : BitVec 12) (size : BitVec 3) (data : Word) (s : State) : Result :=
  match busTarget addr size s with
  | some r => .next (writeReg r data s)
  | none => .next (takeBusError addr s)

end Sys2Proof.Machine
end

