-- ==== Sys2Proof/Machine/Command.lean ====
section
/-! DEFINITION. The seven commands as the bus issues them (41_accumulator.md R160, R163, R167 to R174). Each is refused with
`REJECTED` when the block was in autonomous mode at the start of the cycle (R103, R160; log 12); else it has its effect and then
records `LAST_OPC`, `CMD_COUNT` and its results (R105). -/

namespace Sys2Proof.Machine

/-- R160, R103: the mode check of a bus-issued command, then the command's own effect and its record. -/
def issued (opc : Byte) (res : Results) (after : State) (s : State) : Result :=
  if s.cycEn then .next (takeCmdError .rejected s) else .next (acceptCommand opc res after)

/-- `NOP` (R167). -/
def execNop (_ch : Channel) (s : State) : Result := issued 0x00 {} s s

/-- `ARM` (R168). -/
def execArm (ch : Channel) (s : State) : Result := issued 0x01 {} (cmdArm ch s) s

/-- `FLUSH` (R163): `RES0` is the delta. -/
def execFlush (ch : Channel) (s : State) : Result :=
  issued 0x02 { r0 := (cmdFlush ch s).1 } (cmdFlush ch s).2 s

/-- `READ_TOTAL` (R170): `RES0` and `RES1` are the total. -/
def execReadTotal (ch : Channel) (s : State) : Result :=
  issued 0x03 { r0 := (s.acc ch).total.extractLsb' 0 32, r1 := (s.acc ch).total.extractLsb' 32 32 } s s

/-- `RESET_TO` (R169): the value is `ARG`. -/
def execResetTo (ch : Channel) (s : State) : Result :=
  issued 0x04 {} (cmdResetTo ch (s.main.argHi ++ s.main.argLo) s) s

/-- `SAMPLE_RATE` (R172): delta, window count, elapsed ticks and rate. -/
def execSampleRate (ch : Channel) (s : State) : Result :=
  let x := (cmdSampleRate ch s).1
  issued 0x05
    { r0 := x.delta, r1 := x.count, r2 := x.elapsed.extractLsb' 0 32, r3 := x.elapsed.extractLsb' 32 32,
      r4 := x.rate.extractLsb' 0 32, r5 := x.rate.extractLsb' 32 32 }
    (cmdSampleRate ch s).2 s

/-- `ACK_REPORT` (R174). -/
def execAckReport (ch : Channel) (s : State) : Result := issued 0x06 {} (cmdAckReport ch s) s

end Sys2Proof.Machine
end

