-- ==== Sys2Proof/Machine/Events.lean ====
section
/-! DEFINITION. The input events (30_encoding.md R116): the tick (60_exceptions.md R316, R311), the sampled inputs with their edge
detectors (41_accumulator.md R150, R155; 60_exceptions.md R312, R313), the radio levels (43_interfaces.md R281) and `POR`
(70_reset_and_hazards.md R340). -/

namespace Sys2Proof.Machine

/-- R316: `TIME` advances, wrapping. -/
def advanceTime (s : State) : State := { s with aon := { s.aon with time := s.aon.time + 1 } }

/-- R311: the one-shot periodic timer, compared after the advance. -/
def fireTimer (s : State) : State :=
  if s.aon.timerRun && decide (s.aon.deadline.toNat ≤ s.aon.time.toNat) then
    { s with aon := { s.aon with wakePend := setLatch .timer s.aon.wakePend, timerRun := false } }
  else s

/-- R150: a channel's input sampled: its synchroniser shifts, and a rising edge after the shift is `on_edge(c)`. -/
def sampleChannel (c : Channel) (level : Bool) (s : State) : State :=
  let s := s.setAcc c { s.acc c with sync := (s.acc c).sync.shift level }
  if (s.acc c).sync.rising then onEdge c s else s

/-- R62, R312: the button's input sampled; a rising edge is a press. -/
def sampleButton (level : Bool) (s : State) : State :=
  let s := { s with aon := { s.aon with bsync := s.aon.bsync.shift level } }
  if s.aon.bsync.rising then
    { s with aon := { s.aon with btnPress := s.aon.time, wakePend := setLatch .button s.aon.wakePend } }
  else s

/-- R62, R313: the factory-command input sampled; a rising edge is a command. -/
def sampleFactory (level : Bool) (s : State) : State :=
  let s := { s with aon := { s.aon with fsync := s.aon.fsync.shift level } }
  if s.aon.fsync.rising then { s with aon := { s.aon with frstPend := true } } else s

/-- `TICK` (R316, R311); `LVL` is ignored. -/
def execEvtTick (_lvl : Bool) (s : State) : Result := .next (fireTimer (advanceTime s))

/-- `IN_RAIN` (R150): `RAIN_IN` has level `LVL` in this cycle. -/
def execEvtInRain (lvl : Bool) (s : State) : Result := .next (sampleChannel .rain lvl s)

/-- `IN_WIND` (R150): `WIND_IN` has level `LVL` in this cycle. -/
def execEvtInWind (lvl : Bool) (s : State) : Result := .next (sampleChannel .wind lvl s)

/-- `IN_BTN` (R312): `BTN_IN` has level `LVL` in this cycle. -/
def execEvtInBtn (lvl : Bool) (s : State) : Result := .next (sampleButton lvl s)

/-- `IN_ASSOC` (R281): `ASSOC_VALID` takes level `LVL`. -/
def execEvtInAssoc (lvl : Bool) (s : State) : Result := .next { s with assocValid := lvl }

/-- `IN_IDLE` (R281): `RADIO_IDLE` takes level `LVL`. -/
def execEvtInIdle (lvl : Bool) (s : State) : Result := .next { s with radioIdle := lvl }

/-- `IN_FACTORY` (R313): `FACTORY_CMD` has level `LVL` in this cycle. -/
def execEvtInFactory (lvl : Bool) (s : State) : Result := .next (sampleFactory lvl s)

/-- `POR` (R340); `LVL` is ignored. -/
def execEvtPor (_lvl : Bool) (s : State) : Result := .next (porReset s)

end Sys2Proof.Machine
end

