-- ==== Sys2Proof/Machine/Factory.lean ====
section
/-! DEFINITION. The micro-steps of `FACTORY_RESET` (42_power_fsm.md R246). -/

namespace Sys2Proof.Machine

/-- R246: one channel's totals cleared, in the block and in the store; the store's answer is ignored. -/
def clearStep (c : Channel) (k' : BitVec 5) (s : State) : Result :=
  match reqStoreSet (keyTotal c) (le64 0) (factoryClear c s) with
  | some (_, s) => .next (goto .factoryReset k' s)
  | none => hold s

/-- `FACTORY_RESET.0` (R246): the association cleared in the store. -/
def execFactoryReset0 (s : State) : Result :=
  match reqStoreSet keyAssoc [0x00] s with
  | some (_, s) => .next (goto .factoryReset 1 s)
  | none => hold s

/-- `FACTORY_RESET.1` (R246): the rain channel. -/
def execFactoryReset1 (s : State) : Result := clearStep .rain 2 s

/-- `FACTORY_RESET.2` (R246): the wind channel. -/
def execFactoryReset2 (s : State) : Result := clearStep .wind 3 s

/-- `FACTORY_RESET.3` (R246): the restart; the next boot joins. -/
def execFactoryReset3 (s : State) : Result :=
  .next (warmReset
    { s with aon := { s.aon with
        frstPend := false, joinPending := true, wakePend := clearLatch .button s.aon.wakePend } })

end Sys2Proof.Machine
end

