-- ==== Sys2Proof/Machine/Requests.lean ====
section
/-! DEFINITION. The ten collaborator requests as transactions on the request port (30_encoding.md R110, R111; 43_interfaces.md R260
to R271). The micro-steps run the same operations inside their one atomic step; here each stands alone (log 26). A response-bearing
request waits for the collaborator; the others are accepted at once. -/

namespace Sys2Proof.Machine

/-- R260: a response-bearing transaction: it waits while the collaborator does not answer. -/
def transaction (k : ReqKind) (a b : Byte) (payload : List Byte) (s : State) : Result :=
  match transact k a b payload s with
  | some (_, s) => .next s
  | none => hold s

/-- `JOIN` (R261). -/
def execReqJoin (a b : Byte) (s : State) : Result := transaction .join a b [] s

/-- `REPORT` (R262): the payload is the u64 value. -/
def execReqReport (a b : Byte) (value : DWord) (s : State) : Result := .next (emit .report a b (le64 value) s)

/-- `STORE_GET` (R263): the response is the key's value in the store. -/
def execReqStoreGet (a b : Byte) (s : State) : Result := transaction .storeGet a b [] s

/-- `STORE_SET` (R264): `B` bytes under key `A`. -/
def execReqStoreSet (a b : Byte) (bytes : List Byte) (s : State) : Result :=
  transaction .storeSet a b (bytes.take b.toNat) s

/-- `PROBE` (R265). -/
def execReqProbe (a b : Byte) (s : State) : Result := transaction .probe a b [] s

/-- `SENSOR_READ` (R266). -/
def execReqSensorRead (a b : Byte) (s : State) : Result := transaction .sensorRead a b [] s

/-- `BATT_SAMPLE` (R268). -/
def execReqBattSample (a b : Byte) (s : State) : Result := transaction .battSample a b [] s

/-- `WAKE_CFG` (R269): the payload is the u32 duration. -/
def execReqWakeCfg (a b : Byte) (dur : Word) (s : State) : Result := transaction .wakeCfg a b (wordBytes dur) s

/-- `SET_LEVEL` (R270). -/
def execReqSetLevel (a b : Byte) (s : State) : Result := .next (emit .setLevel a b [] s)

/-- `SLEEP_REQ` (R271). -/
def execReqSleepReq (a b : Byte) (s : State) : Result := .next (emit .sleepReq a b [] s)

end Sys2Proof.Machine
end

