-- ==== Sys2Proof/Machine/Session.lean ====
section
/-! DEFINITION. The micro-steps of `ACTIVE_SESSION` (42_power_fsm.md R210 to R224; identification, 40_sensor_id.md R133 to R138). -/

namespace Sys2Proof.Machine

/-- R134, R135, R138: one probe at substep `k`: where `MATCH` goes, where absence goes, and the same step again after a bus error
while attempts are left. -/
def probeStep (dev : Byte) (k : BitVec 5) (found absent : State → State) (s : State) : Result :=
  match reqProbe dev s with
  | some (.found, s) => .next (found (setTry 0 s))
  | some (.mismatch, s) => .next (absent (setTry 0 s))
  | some (.busErr, s) =>
    .next (if retriesLeft s then goto .activeSession k (setTry (s.main.tryCount + 1) s) else absent (setTry 0 s))
  | none => hold s

/-- R217: the read of quantity `q` at substep `k`, with the next substep `k'`. -/
def readStep (q : Quantity) (k k' : BitVec 5) (s : State) : Result :=
  let src := sourceOf s.aon.combo q
  let done (v : DWord) (s : State) : State := goto .activeSession k' (setTry 0 (setSval q v s))
  if src = 0 then .next (done (sentinelOf s.cfg q) s)
  else
    match reqSensorRead (src.setWidth 8) q.code s with
    | some (some v, s) => .next (done v s)
    | some (none, s) =>
      .next (if retriesLeft s then goto .activeSession k (setTry (s.main.tryCount + 1) s)
        else done (sentinelOf s.cfg q) s)
    | none => hold s

/-- `ACTIVE_SESSION.0` (R210): the session starts; the timer and edge latches are cleared, the button's is not. -/
def execActiveSession0 (s : State) : Result :=
  .next (goto .activeSession 1
    { s with
      aon := { s.aon with
        wakePend := clearLatch .windEdge (clearLatch .rainEdge (clearLatch .timer s.aon.wakePend)) }
      main := { s.main with sessionStart := s.aon.time, fullPath := true, battNew := false, tryCount := 0 } })

/-- `ACTIVE_SESSION.1` (R133): the cache check. -/
def execActiveSession1 (s : State) : Result :=
  if s.aon.combo.valid then .next (goto .activeSession 5 s) else .next (goto .activeSession 2 (setTry 0 s))

/-- `ACTIVE_SESSION.2` (R134): the combined device. -/
def execActiveSession2 (s : State) : Result :=
  probeStep 1 2 (fun s => goto .activeSession 5 (setCombo 1 s)) (goto .activeSession 3) s

/-- `ACTIVE_SESSION.3` (R135): the temperature and humidity device. -/
def execActiveSession3 (s : State) : Result :=
  probeStep 2 3 (goto .activeSession 4) (fun s => goto .activeSession 5 (setCombo 4 s)) s

/-- `ACTIVE_SESSION.4` (R138): the pressure device. -/
def execActiveSession4 (s : State) : Result :=
  probeStep 3 4 (fun s => goto .activeSession 5 (setCombo 2 s)) (fun s => goto .activeSession 5 (setCombo 3 s)) s

/-- `ACTIVE_SESSION.5` (R212): the rain flush. -/
def execActiveSession5 (s : State) : Result := .next (goto .activeSession 6 (cmdFlush .rain s).2)

/-- `ACTIVE_SESSION.6` (R213): the wind flush and rate sample. -/
def execActiveSession6 (s : State) : Result := .next (goto .activeSession 7 (cmdSampleRate .wind s).2)

/-- `ACTIVE_SESSION.7` (R216): the battery sample, when due. -/
def execActiveSession7 (s : State) : Result :=
  if battDue s then
    match reqBattSample s with
    | some (mv, s) => .next (goto .activeSession 8 (recordSample mv s))
    | none => hold s
  else .next (goto .activeSession 8 s)

/-- `ACTIVE_SESSION.8` (R217): temperature. -/
def execActiveSession8 (s : State) : Result := readStep .temperature 8 9 s

/-- `ACTIVE_SESSION.9` (R217): humidity. -/
def execActiveSession9 (s : State) : Result := readStep .humidity 9 10 s

/-- `ACTIVE_SESSION.10` (R217): pressure. -/
def execActiveSession10 (s : State) : Result := readStep .pressure 10 11 s

/-- `ACTIVE_SESSION.11` (R219): the rain total, if owed. -/
def execActiveSession11 (s : State) : Result := .next (goto .activeSession 12 (reportTotal .rain s))

/-- `ACTIVE_SESSION.12` (R220): the wind total, if owed. -/
def execActiveSession12 (s : State) : Result := .next (goto .activeSession 13 (reportTotal .wind s))

/-- `ACTIVE_SESSION.13` (R221): the wind rate. -/
def execActiveSession13 (s : State) : Result := .next (goto .activeSession 14 (report 2 (s.acc .wind).lastRate s))

/-- `ACTIVE_SESSION.14` (R222): the temperature. -/
def execActiveSession14 (s : State) : Result := .next (goto .activeSession 15 (report 3 s.main.svalT s))

/-- `ACTIVE_SESSION.15` (R222): the humidity. -/
def execActiveSession15 (s : State) : Result := .next (goto .activeSession 16 (report 4 s.main.svalH s))

/-- `ACTIVE_SESSION.16` (R222): the pressure. -/
def execActiveSession16 (s : State) : Result := .next (goto .activeSession 17 (report 5 s.main.svalP s))

/-- `ACTIVE_SESSION.17` (R223): the battery millivolts, if newly sampled. -/
def execActiveSession17 (s : State) : Result :=
  .next (goto .activeSession 18 (if s.main.battNew then report 6 (s.aon.battMv.setWidth 64) s else s))

/-- `ACTIVE_SESSION.18` (R223): the battery percentage, if newly sampled. -/
def execActiveSession18 (s : State) : Result :=
  .next (goto .activeSession 19 (if s.main.battNew then report 7 (s.aon.battPct.setWidth 64) s else s))

/-- `ACTIVE_SESSION.19` (R224): wait for the radio's idle level or the session's timeout. -/
def execActiveSession19 (s : State) : Result :=
  if s.radioIdle || decide (s.cfg.activeTimeout.toNat ≤ elapsed s.aon.time s.main.sessionStart) then
    .next (goto .enterSleep 0 s)
  else hold s

end Sys2Proof.Machine
end

