-- ==== Sys2Proof/Machine/Sleep.lean ====
section
/-! DEFINITION. The micro-steps of `ENTER_SLEEP` and `SLEEPING` (42_power_fsm.md R230 to R240). -/

namespace Sys2Proof.Machine

/-- R232: the durable write of a channel's total when it is due; a failed write is retried at a later sleep entry. -/
def persistStep (c : Channel) (k' : BitVec 5) (s : State) : Result :=
  if persistDue c s then
    match reqStoreSet (keyTotal c) (le64 (s.acc c).total) s with
    | some (ok, s) =>
      .next (goto .enterSleep k' (if ok then s.setAcc c { s.acc c with durEdges := 0 } else s))
    | none => hold s
  else .next (goto .enterSleep k' s)

/-- `ENTER_SLEEP.0` (R230): the power gates to their baseline. -/
def execEnterSleep0 (s : State) : Result := .next (goto .enterSleep 1 (gatesLow s.cfg.gatePins s))

/-- `ENTER_SLEEP.1` (R231): the factory-reset check. -/
def execEnterSleep1 (s : State) : Result :=
  .next (if s.aon.frstPend then goto .factoryReset 0 s else goto .enterSleep 2 s)

/-- `ENTER_SLEEP.2` (R232): the rain total. -/
def execEnterSleep2 (s : State) : Result := persistStep .rain 3 s

/-- `ENTER_SLEEP.3` (R232): the wind total. -/
def execEnterSleep3 (s : State) : Result := persistStep .wind 4 s

/-- `ENTER_SLEEP.4` (R234): the sleep plan. -/
def execEnterSleep4 (s : State) : Result := .next (goto .enterSleep 5 (buildPlan s))

/-- `ENTER_SLEEP.5` (R235): the wake platform accepts the plan, or arming is retried later. -/
def execEnterSleep5 (s : State) : Result :=
  match reqWakeCfg s.main.planArm (!s.main.planRetain) s.main.sleepDur s with
  | some (ok, s) =>
    .next (if ok then goto .enterSleep 7 { s with aon := { s.aon with wakeArm := s.main.planArm } }
      else goto .enterSleep 6
        { s with main := { s.main with waitUntil := sat64 (s.aon.time.toNat + s.cfg.armRetryDelay.toNat) } })
  | none => hold s

/-- `ENTER_SLEEP.6` (R236): the arming retry. -/
def execEnterSleep6 (s : State) : Result :=
  if s.main.waitUntil.toNat ≤ s.aon.time.toNat then .next (goto .enterSleep 4 s) else hold s

/-- `ENTER_SLEEP.7` (R237): the race check and the suspension. -/
def execEnterSleep7 (s : State) : Result :=
  let s := { s with main := { s.main with fullPath := false } }
  .next (if armedPending s ≠ 0 then goto .wake 0 s else suspend (!s.main.planRetain) s)

/-- `SLEEPING.0` (R240): the wake; from LIGHT everything is kept, from DEEP the MAIN domain is reset. -/
def execSleeping0 (s : State) : Result :=
  if armedPending s ≠ 0 then
    let k := pri (armedPending s)
    let s := { s with aon := { s.aon with asleep := false } }
    if s.aon.lastVariant then .next (warmReset (dispatchWake k s)) else .next (goto .wake 0 s)
  else hold s

end Sys2Proof.Machine
end

