-- ==== Sys2Proof/Machine/Wake.lean ====
section
/-! DEFINITION. The micro-steps of `WAKE` (42_power_fsm.md R241 to R245). -/

namespace Sys2Proof.Machine

/-- `WAKE.0` (R241): the dispatch of one armed latch. -/
def execWake0 (s : State) : Result :=
  if armedPending s = 0 then .next (goto .enterSleep 0 s)
  else
    let k := pri (armedPending s)
    let s := dispatchWake k s
    .next (match k with
      | .button => goto .wake 1 s
      | .timer =>
        if s.aon.joinPending then goto .joinNetwork 0 { s with main := { s.main with joinTry := 0 } }
        else goto .activeSession 0 s
      | .rainEdge => if s.assocValid then goto .wake 2 s else goto .activeSession 0 s
      | .windEdge => if s.assocValid then goto .wake 2 s else goto .activeSession 0 s)

/-- `WAKE.1` (R242): the button hold. -/
def execWake1 (s : State) : Result :=
  if s.aon.bsync.s2 = false ∨ s.cfg.btnHold.toNat ≤ elapsed s.aon.time s.aon.btnPress then
    .next (if s.aon.bsync.s2 then goto .factoryReset 0 s else goto .activeSession 0 s)
  else hold s

/-- `WAKE.2` (R243): the flush of the channel whose edge woke the block. -/
def execWake2 (s : State) : Result := .next (goto .wake 3 (cmdFlush (wokenChannel s) s).2)

/-- `WAKE.3` (R245): its report, if owed. -/
def execWake3 (s : State) : Result := .next (goto .enterSleep 0 (reportTotal (wokenChannel s) s))

end Sys2Proof.Machine
end

