-- ==== Sys2Proof/Machine/Dispatch.lean ====
section
/-! DEFINITION. One arm per instruction. -/

namespace Sys2Proof.Machine

/-- The meaning of an instruction. -/
def exec (i : Instr) (s : State) : Host.Outcome State Fault Refusal :=
  match i with
  | .nop ch => Sys2Proof.Machine.execNop ch s
  | .arm ch => Sys2Proof.Machine.execArm ch s
  | .flush ch => Sys2Proof.Machine.execFlush ch s
  | .readTotal ch => Sys2Proof.Machine.execReadTotal ch s
  | .resetTo ch => Sys2Proof.Machine.execResetTo ch s
  | .sampleRate ch => Sys2Proof.Machine.execSampleRate ch s
  | .ackReport ch => Sys2Proof.Machine.execAckReport ch s
  | .reqJoin a b => Sys2Proof.Machine.execReqJoin a b s
  | .reqReport a b value => Sys2Proof.Machine.execReqReport a b value s
  | .reqStoreGet a b => Sys2Proof.Machine.execReqStoreGet a b s
  | .reqStoreSet a b bytes => Sys2Proof.Machine.execReqStoreSet a b bytes s
  | .reqProbe a b => Sys2Proof.Machine.execReqProbe a b s
  | .reqSensorRead a b => Sys2Proof.Machine.execReqSensorRead a b s
  | .reqBattSample a b => Sys2Proof.Machine.execReqBattSample a b s
  | .reqWakeCfg a b dur => Sys2Proof.Machine.execReqWakeCfg a b dur s
  | .reqSetLevel a b => Sys2Proof.Machine.execReqSetLevel a b s
  | .reqSleepReq a b => Sys2Proof.Machine.execReqSleepReq a b s
  | .evtTick lvl => Sys2Proof.Machine.execEvtTick lvl s
  | .evtInRain lvl => Sys2Proof.Machine.execEvtInRain lvl s
  | .evtInWind lvl => Sys2Proof.Machine.execEvtInWind lvl s
  | .evtInBtn lvl => Sys2Proof.Machine.execEvtInBtn lvl s
  | .evtInAssoc lvl => Sys2Proof.Machine.execEvtInAssoc lvl s
  | .evtInIdle lvl => Sys2Proof.Machine.execEvtInIdle lvl s
  | .evtInFactory lvl => Sys2Proof.Machine.execEvtInFactory lvl s
  | .evtPor lvl => Sys2Proof.Machine.execEvtPor lvl s
  | .busRd addr size => Sys2Proof.Machine.execBusRd addr size s
  | .busWr addr size data => Sys2Proof.Machine.execBusWr addr size data s
  | .boot0 => Sys2Proof.Machine.execBoot0 s
  | .boot1 => Sys2Proof.Machine.execBoot1 s
  | .boot2 => Sys2Proof.Machine.execBoot2 s
  | .boot3 => Sys2Proof.Machine.execBoot3 s
  | .join0 => Sys2Proof.Machine.execJoin0 s
  | .join1 => Sys2Proof.Machine.execJoin1 s
  | .join2 => Sys2Proof.Machine.execJoin2 s
  | .activeSession0 => Sys2Proof.Machine.execActiveSession0 s
  | .activeSession1 => Sys2Proof.Machine.execActiveSession1 s
  | .activeSession2 => Sys2Proof.Machine.execActiveSession2 s
  | .activeSession3 => Sys2Proof.Machine.execActiveSession3 s
  | .activeSession4 => Sys2Proof.Machine.execActiveSession4 s
  | .activeSession5 => Sys2Proof.Machine.execActiveSession5 s
  | .activeSession6 => Sys2Proof.Machine.execActiveSession6 s
  | .activeSession7 => Sys2Proof.Machine.execActiveSession7 s
  | .activeSession8 => Sys2Proof.Machine.execActiveSession8 s
  | .activeSession9 => Sys2Proof.Machine.execActiveSession9 s
  | .activeSession10 => Sys2Proof.Machine.execActiveSession10 s
  | .activeSession11 => Sys2Proof.Machine.execActiveSession11 s
  | .activeSession12 => Sys2Proof.Machine.execActiveSession12 s
  | .activeSession13 => Sys2Proof.Machine.execActiveSession13 s
  | .activeSession14 => Sys2Proof.Machine.execActiveSession14 s
  | .activeSession15 => Sys2Proof.Machine.execActiveSession15 s
  | .activeSession16 => Sys2Proof.Machine.execActiveSession16 s
  | .activeSession17 => Sys2Proof.Machine.execActiveSession17 s
  | .activeSession18 => Sys2Proof.Machine.execActiveSession18 s
  | .activeSession19 => Sys2Proof.Machine.execActiveSession19 s
  | .enterSleep0 => Sys2Proof.Machine.execEnterSleep0 s
  | .enterSleep1 => Sys2Proof.Machine.execEnterSleep1 s
  | .enterSleep2 => Sys2Proof.Machine.execEnterSleep2 s
  | .enterSleep3 => Sys2Proof.Machine.execEnterSleep3 s
  | .enterSleep4 => Sys2Proof.Machine.execEnterSleep4 s
  | .enterSleep5 => Sys2Proof.Machine.execEnterSleep5 s
  | .enterSleep6 => Sys2Proof.Machine.execEnterSleep6 s
  | .enterSleep7 => Sys2Proof.Machine.execEnterSleep7 s
  | .sleeping0 => Sys2Proof.Machine.execSleeping0 s
  | .wake0 => Sys2Proof.Machine.execWake0 s
  | .wake1 => Sys2Proof.Machine.execWake1 s
  | .wake2 => Sys2Proof.Machine.execWake2 s
  | .wake3 => Sys2Proof.Machine.execWake3 s
  | .factoryReset0 => Sys2Proof.Machine.execFactoryReset0 s
  | .factoryReset1 => Sys2Proof.Machine.execFactoryReset1 s
  | .factoryReset2 => Sys2Proof.Machine.execFactoryReset2 s
  | .factoryReset3 => Sys2Proof.Machine.execFactoryReset3 s

end Sys2Proof.Machine
end

