-- ==== Sys2Proof/Machine/Fetch.lean ====
section
/-! DEFINITION. What a clock cycle runs and in which order (20_memory.md R89; log 1, log 2): the opening of a cycle, the fetch of the
next instruction of the cycle, and what happens to bits that are no instruction. -/

namespace Sys2Proof.Machine

/-- R89: the instructions of a cycle, in order: the radio levels that hold in it; if `POR = 1`, the reset and nothing else (log 9); else
the bus access, the FSM's micro-step when the FSM was enabled at the cycle's start (R200, R320), the four sampled inputs in the order
rain, wind, button, factory (log 7), and the tick. -/
def cycleAgenda (fsmEn : Bool) (c : CycleIn) : List Slot :=
  let levels : List Slot := [.evt (stimulusWord 0x05 c.assoc), .evt (stimulusWord 0x06 c.idle)]
  if c.por then levels ++ [.evt (stimulusWord 0x08 false)]
  else
    levels
      ++ (match c.bus with
          | some b => [.bus b]
          | none => [])
      ++ (if fsmEn then [.fsm] else [])
      ++ [.evt (stimulusWord 0x02 c.rain), .evt (stimulusWord 0x03 c.wind), .evt (stimulusWord 0x04 c.btn),
          .evt (stimulusWord 0x07 c.factory)]
      ++ (if c.tick then [.evt (stimulusWord 0x01 false)] else [])

/-- The inputs of the next cycle: the script's, and after the script the free ones (log 5). -/
def nextInputs (s : State) : CycleIn :=
  match s.inq with
  | c :: _ => c
  | [] => Config.freeCycle s.cycle

/-- The clock edge: the next cycle's inputs are taken, its agenda laid out, `FSM_EN` sampled for it, and the outcomes of the last
cycle's bus access and request taken off the ports. No register changes. -/
def openCycle (s : State) : State :=
  let c := nextInputs s
  { s with
    inq := s.inq.tail
    cycle := s.cycle + 1
    cycEn := s.aon.fsmEn
    ans := c.ans
    busOut := .none
    rsp := none
    agenda := cycleAgenda s.aon.fsmEn c }

/-- R122, R200: the code of the micro-step to run: `PSC_STATE[7:0]`; in a DEEP suspension, where those bits are unpowered, the AON wake
logic runs `SLEEPING.0` (R239, log 19). -/
def microCode (s : State) : Byte :=
  if deepAsleep s then microStepCode 4 0 else microStepCode s.main.state s.main.substep

/-- The instruction that the bits of a slot stand for. -/
def fetch (slot : Slot) (s : State) : Except DecodeError Instr :=
  match slot with
  | .bus b => .ok (decodeBeat b)
  | .cmd w => decodeCmd w
  | .fsm => decodeFsm (microCode s)
  | .req hdr payload =>
    match decodeReq hdr payload with
    | .ok (i, []) => .ok i
    | .ok (_, _ :: _) => .error .truncated
    | .error e => .error e
  | .evt w => decodeEvt w

/-- Bits that are no instruction: a command word takes the `CmdError` of R103; a micro-step code that R200 does not list stops the
model, and so do the stimulus words and request headers that the spec gives no meaning (log 21). A bus beat is always an access. -/
def onUndecoded (slot : Slot) (s : State) : Result :=
  match slot with
  | .bus b => .next (takeBusError b.addr s)
  | .cmd w => .next (takeCmdError ((commandError s.cycEn w).getD .illegalOpcode) s)
  | .fsm => .fault (.unlistedMicroStep (microCode s))
  | .req hdr _ => .refused (.reservedRequest hdr)
  | .evt w => .refused (.reservedStimulus w)

/-- A command word on the port, and the manual mode it needs to be accepted (R103, R160). -/
def placeCommand (w : Word) (s : State) : State :=
  { s with aon := { s.aon with fsmEn := false }, cycEn := false, agenda := [.cmd w] }

/-- The program counter at a micro-step code, in a cycle that steps the FSM and whose collaborator answers; not in a DEEP suspension,
where the program counter is not read. -/
def placeMicroStep (code : Byte) (s : State) : State :=
  { s with
    aon := { s.aon with asleep := s.aon.asleep && !deepAsleep s }
    main := { s.main with state := code.extractLsb' 0 3, substep := code.extractLsb' 3 5 }
    cycEn := true
    ans := { s.ans with ready := true }
    agenda := [.fsm] }

/-- A request header and payload on the request port, with a collaborator that answers. -/
def placeRequest (hdr : Word) (payload : List Byte) (s : State) : State :=
  { s with ans := { s.ans with ready := true }, agenda := [.req hdr payload] }

/-- How many payload bytes a request header takes (R110). -/
def payloadLength (hdr : Word) : Nat :=
  match (hdr.extractLsb' 0 8).toNat with
  | 2 => 8
  | 4 => (hdr.extractLsb' 16 8).toNat
  | 8 => 4
  | _ => 0

/-- A table word stored where the next step fetches, on the port of its format. -/
def placeWord (f : Format) (w : Nat) (s : State) : State :=
  let word := BitVec.ofNat 32 w
  match f with
  | .cmd => placeCommand word s
  | .req => placeRequest word (List.replicate (payloadLength word) 0) s
  | .evt => { s with agenda := [.evt word] }
  | .fsm => placeMicroStep (BitVec.ofNat 8 w) s
  | .busRd => { s with agenda := [.bus ⟨false, BitVec.ofNat 12 w, 4, 0⟩] }
  | .busWr => { s with agenda := [.bus ⟨true, BitVec.ofNat 12 w, 4, BitVec.ofNat 32 (w / 2 ^ 16)⟩] }

end Sys2Proof.Machine
end

