-- ==== Sys2Proof/Machine/Step.lean ====
section
/-! DEFINITION. One step of the machine: one instruction of the current clock cycle, or, when the cycle is done, the clock edge that
opens the next one (00_scope.md R6, 20_memory.md R89, R90; log 1). -/

namespace Sys2Proof.Machine

/-- The instruction on a slot is run; bits that are no instruction are answered as `onUndecoded` says. -/
def runSlot (slot : Slot) (s : State) : Result :=
  match fetch slot s with
  | .ok i => exec i s
  | .error _ => onUndecoded slot s

/-- One step. R9: an invalid configuration is refused. -/
def step (s : State) : Host.Outcome State Fault Refusal :=
  if cfgValid s.cfg then
    match s.agenda with
    | [] => .next (openCycle s)
    | slot :: rest => runSlot slot { s with agenda := rest }
  else .refused .invalidConfig

/-- A table word stored where the next step fetches its instruction, on the port of the format the decoder reads it in (log 10,
log 11). -/
def State.withFetchWord (s : State) (nbits w : Nat) : State :=
  match firstDecoded (tableBytes w) (tableFormats nbits) with
  | some (f, _) => placeWord f w s
  | none => { s with agenda := [.evt (BitVec.ofNat 32 w)] }

end Sys2Proof.Machine
end

