-- ==== Sys2Proof/Machine/Program.lean ====
section
/-! DEFINITION. The notation of test programs as inputs of the machine (30_encoding.md R118 to R121): pseudo-instructions as the bus
accesses they expand to (R119), stimulus lines as the cycles they stand for (R120), the edge-level form of an edge (R150), and the
reader of a line's text. No rule of the block uses it: it is how inputs are written down. -/

namespace Sys2Proof.Machine

/-- R118: `RD addr`. -/
def rd (addr : BitVec 12) : BusBeat := ⟨false, addr, 4, 0⟩

/-- R118: `WR addr, data`. -/
def wr (addr : BitVec 12) (data : Word) : BusBeat := ⟨true, addr, 4, data⟩

/-- R119: `CMD op, ch`. -/
def pseudoCmd (op : Byte) (ch : Channel) : List BusBeat := [wr 0x100 (commandWord op ch)]

/-- R119: `SETARG v`. -/
def pseudoSetArg (v : DWord) : List BusBeat := [wr 0x104 (v.extractLsb' 0 32), wr 0x108 (v.extractLsb' 32 32)]

/-- R119: `RESET_TO ch, v`. -/
def pseudoResetTo (ch : Channel) (v : DWord) : List BusBeat := pseudoSetArg v ++ pseudoCmd 0x04 ch

/-- R119: `ZERO ch`. -/
def pseudoZero (ch : Channel) : List BusBeat := pseudoResetTo ch 0

/-- R119: `RD64 lo_addr`. -/
def pseudoRd64 (lo : BitVec 12) : List BusBeat := [rd lo, rd (lo + 4)]

/-- R119: `TOTAL ch`. -/
def pseudoTotal (ch : Channel) : List BusBeat := pseudoCmd 0x03 ch ++ [rd 0x110, rd 0x114]

/-- R119: `MANUAL`. -/
def pseudoManual : List BusBeat := [wr 0x134 0]

/-- R119: `AUTO`. -/
def pseudoAuto : List BusBeat := [wr 0x134 1]

/-- R119: `CLRERR`. -/
def pseudoClrErr : List BusBeat := [wr 0x10C 1]

/-- A cycle with every level 0, no tick, no access, no answer. -/
def quietCycle : CycleIn := ⟨false, false, false, false, false, false, false, false, none, ⟨false, 0, 0⟩⟩

/-- Bus accesses, one a cycle, the other inputs as in `c`. -/
def busCycles (beats : List BusBeat) (c : CycleIn) : List CycleIn := beats.map fun b => { c with bus := some b }

/-- R120: `TICK n`. -/
def tickCycles (n : Nat) (c : CycleIn) : List CycleIn := List.replicate n { c with tick := true }

/-- R120, R116: `EDGE ch` at cycle level, the input high for a cycle and low for a cycle. -/
def edgeCycles (ch : Channel) (c : CycleIn) : List CycleIn :=
  match ch with
  | .rain => [{ c with rain := true }, { c with rain := false }]
  | .wind => [{ c with wind := true }, { c with wind := false }]

/-- R120, R150: `EDGE ch` at edge level, seen at the current `TIME`. -/
def edgeLevel (ch : Channel) (s : State) : State := onEdge ch s

/-- R120: `BTN down` (true), `BTN up` (false). -/
def btnCycles (down : Bool) (c : CycleIn) : List CycleIn := [{ c with btn := down }]

/-- R120: `ASSOC l`. -/
def assocCycles (l : Bool) (c : CycleIn) : List CycleIn := [{ c with assoc := l }]

/-- R120: `IDLE l`. -/
def idleCycles (l : Bool) (c : CycleIn) : List CycleIn := [{ c with idle := l }]

/-- R120, R284: `FACTORY`, a pulse. -/
def factoryCycles (c : CycleIn) : List CycleIn := [{ c with factory := true }, { c with factory := false }]

/-- R120: `POR`. -/
def porCycles (c : CycleIn) : List CycleIn := [{ c with por := true }]

/-- R121: a cycle in which the collaborator answers with a status and a value. -/
def answerCycle (status : Byte) (data : DWord) (c : CycleIn) : CycleIn := { c with ans := ⟨true, status, data⟩ }

/-! ## The text of test programs (R118 to R121) -/

/-- A line of a test program (R118 to R121). -/
inductive Line where
  /-- nothing but a comment -/
  | blank
  /-- the bus accesses of a command, an access or a pseudo-instruction, one a cycle -/
  | access (beats : List BusBeat)
  /-- `TICK n` -/
  | tick (n : Nat)
  /-- `EDGE ch` -/
  | edge (ch : Channel)
  /-- `BTN down` (true), `BTN up` (false) -/
  | btn (down : Bool)
  /-- `ASSOC l` -/
  | assoc (l : Bool)
  /-- `IDLE l` -/
  | idle (l : Bool)
  /-- `FACTORY` -/
  | factory
  /-- `POR` -/
  | por
  /-- `KIND args -> answer` (R121), with its status and number or bytes (R111) -/
  | answer (k : ReqKind) (args : List Nat) (status : Byte) (data : DWord) (bytes : List Byte)
deriving DecidableEq, Repr

/-- R118: names are case-insensitive. -/
def upperChar (c : Char) : Char := if 97 ≤ c.toNat ∧ c.toNat ≤ 122 then Char.ofNat (c.toNat - 32) else c

/-- What stands between the words of a line: spaces, tabs, commas, and the brackets of an answer's value. -/
def isSeparator (c : Char) : Bool := c == ' ' || c == '\t' || c == ',' || c == '(' || c == ')' || c == '[' || c == ']'

/-- The words of a line, `acc` holding the letters of the word being read, last first; a comment begins at `;` (R118). -/
def lineWords : List Char → List Char → List (List Char)
  | [], acc => if acc.isEmpty then [] else [acc.reverse]
  | c :: rest, acc =>
    if c = ';' then (if acc.isEmpty then [] else [acc.reverse])
    else if isSeparator c then (if acc.isEmpty then lineWords rest [] else acc.reverse :: lineWords rest [])
    else lineWords rest (upperChar c :: acc)

/-- The entry of a name in a table. -/
def lookupName {α : Type} (name : List Char) : List (List Char × α) → Option α
  | [] => none
  | (n, x) :: rest => if n = name then some x else lookupName name rest

/-- A digit of a base up to 16. -/
def digitOf (base : Nat) (c : Char) : Option Nat :=
  let d := if 48 ≤ c.toNat ∧ c.toNat ≤ 57 then c.toNat - 48 else if 65 ≤ c.toNat ∧ c.toNat ≤ 70 then c.toNat - 55 else 16
  if d < base then some d else none

/-- The value of digits in a base, after the value `acc` of the ones before. -/
def digitsValue (base : Nat) : List Char → Nat → Option Nat
  | [], acc => some acc
  | c :: rest, acc =>
    match digitOf base c with
    | some d => digitsValue base rest (acc * base + d)
    | none => none

/-- A number: hexadecimal after `0x`, else in the given base (log 27). -/
def numberIn (base : Nat) : List Char → Option Nat
  | [] => none
  | '0' :: 'X' :: c :: rest => digitsValue 16 (c :: rest) 0
  | ds => digitsValue base ds 0

/-- A number of at most `w` bits; a wider one is no number of that place. -/
def bitsIn (w base : Nat) (ds : List Char) : Option (BitVec w) :=
  match numberIn base ds with
  | some n => if n < 2 ^ w then some (BitVec.ofNat w n) else none
  | none => none

/-- R118: a channel by its name or its number. -/
def channelNames : List (List Char × Channel) :=
  [(['R', 'A', 'I', 'N'], .rain), (['W', 'I', 'N', 'D'], .wind), (['0'], .rain), (['1'], .wind)]

/-- R101: the commands that take only a channel, with their opcodes. -/
def commandNames : List (List Char × Byte) :=
  [(['A', 'R', 'M'], 0x01), (['F', 'L', 'U', 'S', 'H'], 0x02), (['R', 'E', 'A', 'D', '_', 'T', 'O', 'T', 'A', 'L'], 0x03),
    (['R', 'E', 'S', 'E', 'T', '_', 'T', 'O'], 0x04), (['S', 'A', 'M', 'P', 'L', 'E', '_', 'R', 'A', 'T', 'E'], 0x05),
    (['A', 'C', 'K', '_', 'R', 'E', 'P', 'O', 'R', 'T'], 0x06)]

/-- R120: the levels as they are written. -/
def levelNames : List (List Char × Bool) := [(['0'], false), (['1'], true)]

/-- R120: the button's levels. -/
def buttonNames : List (List Char × Bool) := [(['U', 'P'], false), (['D', 'O', 'W', 'N'], true)]

/-- R110: the request kinds that have an answer. -/
def requestNames : List (List Char × ReqKind) :=
  [(['J', 'O', 'I', 'N'], .join), (['S', 'T', 'O', 'R', 'E', '_', 'G', 'E', 'T'], .storeGet),
    (['S', 'T', 'O', 'R', 'E', '_', 'S', 'E', 'T'], .storeSet), (['P', 'R', 'O', 'B', 'E'], .probe),
    (['S', 'E', 'N', 'S', 'O', 'R', '_', 'R', 'E', 'A', 'D'], .sensorRead),
    (['B', 'A', 'T', 'T', '_', 'S', 'A', 'M', 'P', 'L', 'E'], .battSample), (['W', 'A', 'K', 'E', '_', 'C', 'F', 'G'], .wakeCfg)]

/-- R109, R113: the device names that may stand for their codes. -/
def deviceNames : List (List Char × Nat) :=
  [(['C', 'O', 'M', 'B', 'I', 'N', 'E', 'D'], 1), (['T', 'H', '_', 'D', 'E', 'V'], 2), (['P', '_', 'D', 'E', 'V'], 3)]

/-- R111: the statuses of a kind's named answers. -/
def statusNames : ReqKind → List (List Char × Byte)
  | .probe =>
    [(['M', 'A', 'T', 'C', 'H'], 0), (['M', 'I', 'S', 'M', 'A', 'T', 'C', 'H'], 1), (['B', 'U', 'S', 'E', 'R', 'R'], 2)]
  | .storeGet => [(['A', 'B', 'S', 'E', 'N', 'T'], 1)]
  | _ => [(['O', 'K'], 0), (['E', 'R', 'R'], 1)]

/-- All the words read by `f`, or nothing. -/
def readAll {α : Type} (f : List Char → Option α) : List (List Char) → Option (List α)
  | [] => some []
  | w :: ws =>
    match f w, readAll f ws with
    | some x, some xs => some (x :: xs)
    | _, _ => none

/-- An argument of an answered request: a device's name or a number. -/
def requestArgument (w : List Char) : Option Nat :=
  match lookupName w deviceNames with
  | some n => some n
  | none => numberIn 10 w

/-- R121, R111: the answer to a request: a status, with a number after it where it has one; or a stored byte string. DESIGN CHOICE, safe:
R121 gives no base; the number is decimal, the bytes of a `STORE_GET` answer are hexadecimal, as spec/95 writes bytes (log 27). -/
def readAnswer (k : ReqKind) (args : List Nat) : List (List Char) → Option Line
  | [] => none
  | w :: ws =>
    match lookupName w (statusNames k), ws with
    | some st, [] => some (.answer k args st 0 [])
    | some st, [v] => (bitsIn 64 10 v).map fun v => .answer k args st v []
    | some _, _ => none
    | none, _ => if k = .storeGet then (readAll (bitsIn 8 16) (w :: ws)).map (.answer k args 0 0) else none

/-- R121: `args -> answer`, `seen` holding the arguments read so far, last first. -/
def readAnswerLine (k : ReqKind) : List (List Char) → List Nat → Option Line
  | [], _ => none
  | w :: ws, seen =>
    if w = ['-', '>'] then readAnswer k seen.reverse ws
    else
      match requestArgument w with
      | some n => readAnswerLine k ws (n :: seen)
      | none => none

/-- R118, R119: a line of one name without an argument. -/
def readPlain (name : List Char) : Option Line :=
  lookupName name
    [ (['N', 'O', 'P'], .access (pseudoCmd 0x00 .rain)), (['M', 'A', 'N', 'U', 'A', 'L'], .access pseudoManual),
      (['A', 'U', 'T', 'O'], .access pseudoAuto), (['C', 'L', 'R', 'E', 'R', 'R'], .access pseudoClrErr),
      (['T', 'I', 'C', 'K'], .tick 1), (['F', 'A', 'C', 'T', 'O', 'R', 'Y'], .factory), (['P', 'O', 'R'], .por) ]

/-- R118 to R120: a name with one argument. -/
def readOne (name a : List Char) : Option Line :=
  match lookupName name commandNames with
  | some op => (lookupName a channelNames).map fun ch => .access (pseudoCmd op ch)
  | none =>
    if name = ['R', 'D'] then (bitsIn 12 16 a).map fun x => .access [rd x]
    else if name = ['S', 'E', 'T', 'A', 'R', 'G'] then (bitsIn 64 10 a).map fun v => .access (pseudoSetArg v)
    else if name = ['Z', 'E', 'R', 'O'] then (lookupName a channelNames).map fun ch => .access (pseudoZero ch)
    else if name = ['R', 'D', '6', '4'] then (bitsIn 12 16 a).map fun x => .access (pseudoRd64 x)
    else if name = ['T', 'O', 'T', 'A', 'L'] then (lookupName a channelNames).map fun ch => .access (pseudoTotal ch)
    else if name = ['T', 'I', 'C', 'K'] then (numberIn 10 a).map .tick
    else if name = ['E', 'D', 'G', 'E'] then (lookupName a channelNames).map .edge
    else if name = ['B', 'T', 'N'] then (lookupName a buttonNames).map .btn
    else if name = ['A', 'S', 'S', 'O', 'C'] then (lookupName a levelNames).map .assoc
    else if name = ['I', 'D', 'L', 'E'] then (lookupName a levelNames).map .idle
    else none

/-- R118, R119: a name with two arguments. -/
def readTwo (name a b : List Char) : Option Line :=
  if name = ['W', 'R'] then
    match bitsIn 12 16 a, bitsIn 32 16 b with
    | some x, some v => some (.access [wr x v])
    | _, _ => none
  else if name = ['C', 'M', 'D'] then
    match bitsIn 8 16 a, lookupName b channelNames with
    | some op, some ch => some (.access (pseudoCmd op ch))
    | _, _ => none
  else if name = ['R', 'E', 'S', 'E', 'T', '_', 'T', 'O'] then
    match lookupName a channelNames, bitsIn 64 10 b with
    | some ch, some v => some (.access (pseudoResetTo ch v))
    | _, _ => none
  else none

/-- R118 to R121: a line of a test program; `none` for a line that is none. -/
def readLine (text : List Char) : Option Line :=
  match lineWords text [] with
  | [] => some .blank
  | name :: args =>
    if ['-', '>'] ∈ args then
      match lookupName name requestNames with
      | some k => readAnswerLine k args []
      | none => none
    else
      match args with
      | [] => readPlain name
      | [a] => readOne name a
      | [a, b] => readTwo name a b
      | _ => none

/-- R120: the cycles of a line, on the levels that hold before it. -/
def Line.cycles (c : CycleIn) : Line → List CycleIn
  | .blank => []
  | .access beats => busCycles beats c
  | .tick n => tickCycles n c
  | .edge ch => edgeCycles ch c
  | .btn down => btnCycles down c
  | .assoc l => assocCycles l c
  | .idle l => idleCycles l c
  | .factory => factoryCycles c
  | .por => porCycles c
  | .answer _ _ status data _ => [answerCycle status data c]

/-- R120: the levels that hold after a line. -/
def Line.levels (c : CycleIn) : Line → CycleIn
  | .btn down => { c with btn := down }
  | .assoc l => { c with assoc := l }
  | .idle l => { c with idle := l }
  | _ => c

/-- The inputs that a test program stands for, on the levels that hold before it. -/
def programCycles : List Line → CycleIn → List CycleIn
  | [], _ => []
  | l :: rest, c => l.cycles c ++ programCycles rest (l.levels c)

end Sys2Proof.Machine
end

