-- ==== Sys2Proof/Safety.lean ====
section
/-! DEFINITION. What a legal state of the block is (10_state.md R21, R38, R43, R53, R55; 20_memory.md R72; 00_scope.md R9), when a
suspended block can be woken (42_power_fsm.md R235 to R237), and which requests the block may issue (43_interfaces.md R272). -/

namespace Sys2Proof.Machine

/-- A micro-step code of the table of R200. -/
def listedCode (code : Byte) : Bool :=
  match decodeFsm code with
  | .ok _ => true
  | .error _ => false

/-- The program counter `(STATE, SUBSTEP)` as a code (R122). -/
def pcCode (s : State) : Byte := microStepCode s.main.state s.main.substep

/-- R53, R132, R136: `COMBO` is a row of the priority table once decided, and all 0 before. -/
def comboLegal (k : Combo) : Bool :=
  if k.valid then k == comboOf 1 || k == comboOf 2 || k == comboOf 3 || k == comboOf 4 else k == Combo.cold

/-- R38, R106: `ERRCODE` is 1, 2 or 3 while `ERR` is 1, and 0 otherwise. -/
def cmdStatusLegal (m : Main) : Bool :=
  if m.cmdErr then decide (1 ≤ m.cmdErrCode.toNat) && decide (m.cmdErrCode.toNat ≤ 3) else m.cmdErrCode == 0

/-- A slot of the agenda holds an instruction. -/
def slotRunnable : Slot → Bool
  | .bus _ => true
  | .fsm => true
  | .cmd w =>
    match decodeCmd w with
    | .ok _ => true
    | .error _ => false
  | .req hdr payload =>
    match decodeReq hdr payload with
    | .ok (_, []) => true
    | _ => false
  | .evt w =>
    match decodeEvt w with
    | .ok _ => true
    | .error _ => false

/-- The legal states: the configuration is valid (R9), the program counter is a listed micro-step (R21), `COMBO`, `WAKE_CAUSE`,
`CMD_STATUS` and `BATT_PCT` hold values the spec writes (R53, R43, R38, R55), a suspended block is at `SLEEPING.0` (R239) and in DEEP owes a
join (R237) and has `FSM_EN` 1 (R240, log 20), the store is in its canonical form (R72), and what is left of the cycle are instructions. In a DEEP
suspension the clauses about MAIN fields (program counter, `CMD_STATUS`) speak of what the model keeps there, not of the hardware (R66,
log 19). -/
def Legal (s : State) : Prop :=
  cfgValid s.cfg = true ∧ listedCode (pcCode s) = true ∧ comboLegal s.aon.combo = true ∧ s.aon.wakeCause.toNat ≤ 4 ∧
    cmdStatusLegal s.main = true ∧ s.aon.battPct.toNat ≤ 100 ∧ (s.aon.asleep = true → pcCode s = 0x04) ∧
    (s.aon.asleep = true → s.aon.lastVariant = true → s.aon.joinPending = true ∧ s.aon.fsmEn = true) ∧ Store.wf s.ds = true ∧
    s.agenda.all slotRunnable = true

/-- The timer will wake the block: it is counting, or it has fired and its latch is set (R311). -/
def timerHolds (s : State) : Prop := s.aon.timerRun = true ∨ s.aon.wakePend.getLsbD 0 = true

/-- R235, R237, R239, R310: from the plan on, the timer is in the plan, then armed, and it counts or has fired; a suspended block is at
`SLEEPING.0`, so its timer is armed and counts or has fired. The program counter of a DEEP suspension is what the model keeps of it
(log 19). -/
def WakeGuaranteed (s : State) : Prop :=
  (pcCode s = 0x2B → s.main.planArm.getLsbD 0 = true ∧ timerHolds s) ∧
    (pcCode s = 0x3B → s.aon.wakeArm.getLsbD 0 = true ∧ timerHolds s) ∧
    (pcCode s = 0x04 → s.aon.wakeArm.getLsbD 0 = true ∧ timerHolds s) ∧ (s.aon.asleep = true → pcCode s = 0x04)

/-- R133, R137: identification runs only while nothing is cached. -/
def IdentifiesOnce (s : State) : Prop :=
  (pcCode s = 0x12 ∨ pcCode s = 0x1A ∨ pcCode s = 0x22) → s.aon.combo.valid = false

/-- R206: the join attempts of a visit stay below the bound until they are used up. -/
def JoinBounded (s : State) : Prop :=
  s.main.joinTry.toNat ≤ s.cfg.joinAttempts.toNat ∧
    ((pcCode s = 0x01 ∨ pcCode s = 0x09) → s.main.joinTry.toNat < s.cfg.joinAttempts.toNat)

/-- R110, R272: a request with the arguments the spec gives its kind, never a `SET_LEVEL` with level 1. -/
def requestLegal (r : Request) : Bool :=
  match decodeReq r.hdr r.payload with
  | .ok (i, []) => i.wellFormed && (match i with
    | .reqSetLevel _ b => b == 0
    | _ => true)
  | _ => false

/-- No transaction waits on the request port by itself: the block issues its requests inside its micro-steps (R260). -/
def noLooseRequest (s : State) : Bool :=
  s.agenda.all fun x => match x with
    | .req _ _ => false
    | _ => true

end Sys2Proof.Machine
end

