-- ==== Sys2Proof/Certificates/Slice0/Obligations.lean ====
section
/-! DEFINITION. The statements for the provers. Where a statement gives the state an instruction answers, it gives ALL of it: what its
record update does not name is unchanged (registers of both domains, store, configuration, ports, trace). The helpers before the
statements write the spec's rules out afresh; none calls a meaning. Where a statement gives `rsp` or `trace`, those are the model's form
of the request port (log 17, log 26). -/

open Sys2Proof Sys2Proof.Machine

namespace Sys2Proof.Claims

/-! ## Helpers -/

/-- The program counter at micro-step `k` of state `st` (R108, R122). -/
def atStep (st : BitVec 3) (k : BitVec 5) (s : State) : State :=
  { s with main := { s.main with state := st, substep := k } }

/-- A request with this header and payload goes out (R260). -/
def asked (hdr : Word) (payload : List Byte) (s : State) : State := { s with trace := s.trace ++ [⟨hdr, payload⟩] }

/-- A request goes out and its response is received (R260). -/
def answered (hdr : Word) (payload : List Byte) (r : Response) (s : State) : State :=
  { s with trace := s.trace ++ [⟨hdr, payload⟩], rsp := some r }

/-- What the collaborator answers in this cycle. -/
def freeResponse (s : State) : Response := ⟨s.ans.status, s.ans.data, []⟩

/-- R111, R263: the answer to a `STORE_GET`: status 0 with the bytes, or 1. -/
def storeResponse : Option (List Byte) → Response
  | some bytes => ⟨0, 0, bytes⟩
  | none => ⟨1, 0, []⟩

/-- R160, R105: what an accepted bus-issued command records. -/
def commandDone (opc : Byte) (res : Results) (s : State) : State :=
  { s with main := { s.main with lastOpc := opc, cmdCount := s.main.cmdCount + 1, res := res } }

/-- R88: the total loaded from what the store holds: eight bytes are the value they encode; anything else is 0. -/
def LoadedTotal (stored : Option (List Byte)) (v : DWord) : Prop :=
  (∃ w, stored = some (le64 w) ∧ v = w) ∨ ((∀ bytes, stored = some bytes → bytes.length ≠ 8) ∧ v = 0)

/-- R169: a bank after `RESET_TO` with value `v`. -/
def resetBank (v : DWord) (a : AccBank) : AccBank :=
  { a with total := v, sinceRpt := 0, durEdges := 0, reportReq := false, totalSat := false }

/-- R163 to R166: `b` is the bank `a` after `FLUSH` with unit `u` and threshold `h`. -/
def Flushes (u h : Word) (a b : AccBank) : Prop :=
  let d := a.pending.toNat
  b.pending = 0 ∧ b.total.toNat = min (a.total.toNat + d) (2 ^ 64 - 1) ∧
    (b.totalSat = true ↔ a.totalSat = true ∨ 2 ^ 64 - 1 < a.total.toNat + d) ∧
    b.sinceRpt.toNat = min (a.sinceRpt.toNat + d) (2 ^ 32 - 1) ∧
    (b.reportReq = true ↔ a.reportReq = true ∨ (0 < d ∧ h.toNat ≤ b.sinceRpt.toNat * u.toNat)) ∧
    b.durEdges.toNat = min (a.durEdges.toNat + d) (2 ^ 32 - 1) ∧
    b.winCount.toNat = min (a.winCount.toNat + d) (2 ^ 32 - 1) ∧
    (b.auxSat = true ↔ a.auxSat = true ∨ 2 ^ 32 - 1 < a.sinceRpt.toNat + d ∨ 2 ^ 32 - 1 < a.durEdges.toNat + d ∨
      2 ^ 32 - 1 < a.winCount.toNat + d) ∧
    b.lastEdge = a.lastEdge ∧ b.armed = a.armed ∧ b.leValid = a.leValid ∧ b.pendOvf = a.pendOvf ∧
    b.winStart = a.winStart ∧ b.lastRate = a.lastRate ∧ b.sync = a.sync

/-- R172: `r` is the rate of `n` edges of unit `u` over `el` ticks. -/
def IsRate (n u : Word) (el r : DWord) : Prop :=
  (el = 0 → r = 0) ∧ (el ≠ 0 → r.toNat = min (n.toNat * u.toNat / el.toNat) (2 ^ 64 - 1))

/-- R150, R151, R152, R153, R154: `b` and the latch mask `l'` are a bank and the wake latches after one sample at level `v`. -/
def Samples (refract : Word) (time : DWord) (v : Bool) (latch : BitVec 4) (a b : AccBank) (l l' : BitVec 4) : Prop :=
  let sync : Sync := ⟨v, a.sync.s1, a.sync.s2⟩
  let edge : Prop := a.sync.s1 = true ∧ a.sync.s2 = false
  let accepted : Prop :=
    edge ∧ a.armed = true ∧ (a.leValid = false ∨ refract.toNat ≤ (time - a.lastEdge).toNat)
  (¬accepted → b = { a with sync := sync } ∧ l' = l) ∧
    (accepted → a.pending ≠ 0xFFFFFFFF →
      b = { a with sync := sync, lastEdge := time, leValid := true, pending := a.pending + 1 } ∧ l' = l ||| latch) ∧
    (accepted → a.pending = 0xFFFFFFFF →
      b = { a with sync := sync, lastEdge := time, leValid := true, pendOvf := true } ∧ l' = l ||| latch)

/-- R233: `persist_due(c)` of a bank. -/
def PersistDue (g : Cfg) (full : Bool) (a : AccBank) : Prop :=
  a.durEdges ≠ 0 ∧ (g.durableN.toNat ≤ a.durEdges.toNat ∨ full = true)

/-- R214: `batt_due`. -/
def BattDue (s : State) : Prop :=
  s.aon.lbtValid = false ∨ s.cfg.battInterval.toNat ≤ (s.aon.time - s.aon.lastBatt).toNat

/-- A channel's bank after a bank and latch update of its edge logic. -/
def withSample (c : Channel) (b : AccBank) (l : BitVec 4) (s : State) : State :=
  let s' := s.setAcc c b
  { s' with aon := { s'.aon with wakePend := l } }

/-- A bank after `POR` (R25 to R35). -/
def zeroBank : AccBank :=
  ⟨0, 0, 0, false, false, false, false, false, false, 0, 0, 0, 0, 0, ⟨false, false, false⟩⟩

/-- The AON registers after `POR` (R340). -/
def aonAfterPor : Aon where
  rain := zeroBank
  wind := zeroBank
  time := 0
  lastVariant := false
  joinPending := false
  frstPend := false
  timerRun := false
  asleep := false
  fsmEn := true
  wakeCause := 4
  wakePend := 0
  wakeArm := 0
  deadline := 0
  btnPress := 0
  combo := ⟨0, 0, 0, 0, false⟩
  battMv := 0
  battPct := 0
  battValid := false
  lbtValid := false
  lastBatt := 0
  battAt := 0
  bsync := ⟨false, false, false⟩
  fsync := ⟨false, false, false⟩

/-- The MAIN registers after `POR` (R340) and after a warm reset (R341). -/
def mainAfterReset : Main where
  argLo := 0
  argHi := 0
  cmdErr := false
  cmdErrCode := 0
  lastOpc := 0
  cmdCount := 0
  res := ⟨0, 0, 0, 0, 0, 0⟩
  state := 0
  substep := 0
  longSleep := false
  fullPath := false
  assocStored := false
  tryCount := 0
  joinTry := 0
  planArm := 0
  planRetain := false
  sleepDur := 0
  sessionStart := 0
  waitUntil := 0
  battNew := false
  svalT := 0
  svalH := 0
  svalP := 0
  shadow := 0

/-- R132, R136: the four rows of the priority table as `COMBO` reads them. -/
def comboWordOfRule : Nat → Word
  | 1 => 0x8115
  | 2 => 0x823A
  | 3 => 0x830A
  | _ => 0x8400

/-- A field of a status word with its lowest bit at `n`. -/
def fieldAt {w : Nat} (n : Nat) (v : BitVec w) : Word := v.setWidth 32 <<< n

/-- A flag of a status word at bit `n`. -/
def bitAt (n : Nat) (b : Bool) : Word := fieldAt n (BitVec.ofBool b)

/-- R64: the words of a channel's bank at a base address that are no half of a 64-bit register (R26, R28 to R32). -/
def bankWords (base : BitVec 12) (a : AccBank) (refract unit thresh : Word) : List (BitVec 12 × Word) :=
  [(base + 0x08, a.pending),
    (base + 0x14, bitAt 0 a.armed ||| bitAt 1 a.leValid ||| bitAt 2 a.pendOvf ||| bitAt 3 a.totalSat ||| bitAt 4 a.reportReq |||
      bitAt 5 a.auxSat),
    (base + 0x18, refract), (base + 0x1C, unit), (base + 0x20, thresh), (base + 0x24, a.sinceRpt), (base + 0x28, a.durEdges),
    (base + 0x2C, a.winCount)]

/-- R64, R36 to R39, R41 to R47, R52 to R55, R59: the global words that are no half of a 64-bit register. -/
def globalWords (s : State) : List (BitVec 12 × Word) :=
  [(0x100, 0), (0x104, s.main.argLo), (0x108, s.main.argHi),
    (0x10C, bitAt 0 s.main.cmdErr ||| fieldAt 1 s.main.cmdErrCode ||| fieldAt 8 s.main.lastOpc ||| fieldAt 16 s.main.cmdCount),
    (0x110, s.main.res.r0), (0x114, s.main.res.r1), (0x118, s.main.res.r2), (0x11C, s.main.res.r3), (0x120, s.main.res.r4),
    (0x124, s.main.res.r5),
    (0x130, fieldAt 0 s.main.state ||| fieldAt 3 s.main.substep ||| bitAt 8 s.aon.lastVariant ||| bitAt 9 s.aon.joinPending |||
      bitAt 10 s.main.longSleep ||| bitAt 11 s.main.fullPath ||| bitAt 12 s.aon.frstPend ||| bitAt 13 s.aon.timerRun |||
      bitAt 14 s.aon.asleep ||| bitAt 15 s.main.assocStored ||| fieldAt 16 s.main.tryCount ||| fieldAt 24 s.main.joinTry),
    (0x134, bitAt 0 s.aon.fsmEn), (0x138, fieldAt 0 s.aon.wakeCause), (0x13C, fieldAt 0 s.aon.wakePend),
    (0x140, fieldAt 0 s.aon.wakeArm), (0x144, fieldAt 0 s.main.planArm ||| bitAt 4 s.main.planRetain), (0x148, s.main.sleepDur),
    (0x14C, 0x43410001),
    (0x170, bitAt 0 s.aon.rain.sync.s2 ||| bitAt 1 s.aon.wind.sync.s2 ||| bitAt 2 s.aon.bsync.s2 ||| bitAt 3 s.assocValid |||
      bitAt 4 s.radioIdle),
    (0x174, fieldAt 0 s.aon.combo.tSrc ||| fieldAt 2 s.aon.combo.hSrc ||| fieldAt 4 s.aon.combo.pSrc ||| fieldAt 8 s.aon.combo.rule |||
      bitAt 15 s.aon.combo.valid),
    (0x178, s.aon.battMv),
    (0x17C, fieldAt 0 s.aon.battPct ||| bitAt 8 s.aon.battValid ||| bitAt 9 s.aon.lbtValid ||| bitAt 10 s.main.battNew)]

/-- R60: the configuration window; of the length of `GATE_PINS` bits 7:0 (log 22). -/
def configWords (g : Cfg) : List (BitVec 12 × Word) :=
  [(0x200, g.tickHz), (0x204, g.sleepInterval), (0x208, g.joinFailInterval), (0x20C, g.battInterval), (0x210, g.btnHold),
    (0x214, g.activeTimeout), (0x218, fieldAt 0 g.joinAttempts), (0x21C, g.joinBackoff), (0x220, fieldAt 0 g.probeRetries),
    (0x224, g.durableN), (0x228, g.armRetryDelay), (0x22C, g.battLoMv), (0x230, g.battHiMv),
    (0x234, BitVec.ofNat 32 (g.gatePins.length % 256)), (0x238, 0), (0x23C, 0)]

/-- R310, R314: the bit that is served, its `WakeEvent` code: button, timer, rain, wind. -/
def servedBit (m : BitVec 4) : BitVec 4 × BitVec 3 :=
  if m &&& 0b1000 ≠ 0 then (0b1000, 3)
  else if m &&& 0b0001 ≠ 0 then (0b0001, 0)
  else if m &&& 0b0010 ≠ 0 then (0b0010, 1)
  else (0b0100, 2)

/-- R240, R241: the `WakeEvent` saved and its latch cleared. -/
def served (m : BitVec 4) (s : State) : State :=
  { s with aon := { s.aon with
      wakeCause := (servedBit m).2, wakePend := s.aon.wakePend &&& ~~~(servedBit m).1 } }

end Sys2Proof.Claims

open Sys2Proof.Claims

/-! ## The step, the cycle and the encodings -/

/-- R89, R200: what stands at the head of the cycle's agenda is decoded and run, on the state with it taken off. -/
def Obligations.StepRunsDecodedInstruction : Prop :=
  ∀ (s : State) (slot : Slot) (rest : List Slot) (i : Instr),
    cfgValid s.cfg = true → s.agenda = slot :: rest → fetch slot { s with agenda := rest } = .ok i →
      step s = exec i { s with agenda := rest }

/-- R89, R200, R320: a clock edge takes the next inputs (the script's, after it the free ones) and lays the cycle out: the radio levels,
then the bus access, the micro-step if `FSM_EN` is 1 now, the sampled inputs rain, wind, button, factory, the tick; with `POR` only the
reset. No register changes. That the radio levels come first and that a `POR` cycle does nothing else are the model's reading (log 8,
log 9). -/
def Obligations.ClockEdgeLaysOutCycle : Prop :=
  ∀ (s : State), cfgValid s.cfg = true → s.agenda = [] →
    let c : CycleIn := s.inq.headD (Config.freeCycle s.cycle)
    step s = .next { s with
      inq := s.inq.tail, cycle := s.cycle + 1, cycEn := s.aon.fsmEn, ans := c.ans, busOut := .none, rsp := none,
      agenda :=
        [.evt (if c.assoc then 0x105 else 0x005), .evt (if c.idle then 0x106 else 0x006)] ++
          (if c.por then [.evt 0x008]
          else c.bus.toList.map .bus ++ (if s.aon.fsmEn then [.fsm] else []) ++
            [.evt (if c.rain then 0x102 else 0x002), .evt (if c.wind then 0x103 else 0x003),
              .evt (if c.btn then 0x104 else 0x004), .evt (if c.factory then 0x107 else 0x007)] ++
            (if c.tick then [.evt 0x001] else [])) }

/-- R101, R110, R113, R116, R122, R73: words of each format, as the spec writes them, decode to their instructions. The order of the four
payload bytes of the `WAKE_CFG` is the model's reading, not the spec's (log 15). -/
def Obligations.SpecWordsDecode : Prop :=
  decodeCmd 0x00000102 = .ok (.flush .wind) ∧ decodeCmd 0x00000004 = .ok (.resetTo .rain) ∧
    decodeReq 0x00010206 [] = .ok (.reqSensorRead 2 1, []) ∧
    decodeReq 0x00000F08 [0x60, 0xEA, 0x00, 0x00] = .ok (.reqWakeCfg 0x0F 0 60000, []) ∧
    decodeReq 0x00011004 [0x01] = .ok (.reqStoreSet 0x10 1 [0x01], []) ∧
    decodeEvt 0x00000104 = .ok (.evtInBtn true) ∧ decodeFsm 0x9A = .ok .activeSession19 ∧
    decodeFsm 0x3B = .ok .enterSleep7 ∧ decode .busRd [0x4C, 0x01] = .ok (.busRd 0x14C 4, []) ∧
    decodeCmd 0x00000207 = .error .reservedBits ∧ decodeCmd 0x00000007 = .error .illegalOpcode

/-- Every well-formed instruction of the table decodes back from its bytes, every operand kept, and the bytes after it are left. The byte order
in `REPORT` and `WAKE_CFG` payloads is the model's (log 15); the round trip says only that it is the same both ways. -/
def Obligations.EncodeDecodeRoundTrip : Prop :=
  ∀ (i : Instr) (rest : List Byte), WellFormed i → decode (formatOf i) (encode i ++ rest) = .ok (i, rest)

/-- A command word, a stimulus word, a micro-step code has one meaning: what it decodes to encodes to it again. -/
def Obligations.DecodeEncodeWords : Prop :=
  (∀ w i, decodeCmd w = .ok i → encode i = wordBytes w) ∧ (∀ w i, decodeEvt w = .ok i → encode i = wordBytes w) ∧
    (∀ code i, decodeFsm code = .ok i → encode i = [code])

/-! ## Invariants -/

/-- Every launch with a valid configuration and a canonical store is legal, and in it the other invariants hold. -/
def Obligations.LaunchIsLegal : Prop :=
  ∀ (g : Cfg) (ds : Store) (inq : List CycleIn), cfgValid g = true → Store.wf ds = true →
    Legal (State.launch g ds inq) ∧ WakeGuaranteed (State.launch g ds inq) ∧ IdentifiesOnce (State.launch g ds inq) ∧
      JoinBounded (State.launch g ds inq) ∧ noLooseRequest (State.launch g ds inq) = true

/-- Every step keeps the legal states (R21, R38, R43, R53, R55, R72, R237, R239, R240). `Legal` speaks of MAIN fields (the program counter,
`CMD_STATUS`) in a DEEP suspension too, where R66 says they have no value: that they keep one is the model's choice (log 19); that `FSM_EN`
is 1 in one rests on log 20. -/
def Obligations.LegalKeptByStep : Prop :=
  ∀ s t : State, Legal s → step s = .next t → Legal t

/-- R304: from a legal state no step ends in a fault or a refusal. `Legal` rests on log 19 and log 20 where it speaks of a DEEP suspension. -/
def Obligations.LegalNeverStops : Prop :=
  ∀ s : State, Legal s → ∃ t, step s = .next t

/-- R235, R237, R239, R240, R311: every step keeps `WakeGuaranteed`; by it a suspended block has the timer armed, and the timer counts or has
fired; a tick that brings `TIME` to `DEADLINE` latches it and leaves the block suspended; and with the latch set the next cycle that steps
the FSM ends the suspension, whatever access that cycle carries. `WakeGuaranteed` reads the program counter, which in a DEEP suspension
is what the model keeps of it (log 19); that `FSM_EN` is 1 in DEEP is in `Legal` (log 20); ticks are the environment's (R286). -/
def Obligations.WakeGuaranteeKept : Prop :=
  ∀ s : State, WakeGuaranteed s →
    (∀ t, step s = .next t → WakeGuaranteed t) ∧
    (s.aon.asleep = true → s.aon.wakeArm.getLsbD 0 = true ∧ timerHolds s) ∧
    (∀ l, s.aon.asleep = true → s.aon.deadline.toNat ≤ (s.aon.time.toNat + 1) % 2 ^ 64 →
      ∃ t, exec (.evtTick l) s = .next t ∧ t.aon.asleep = true ∧ t.aon.wakePend.getLsbD 0 = true) ∧
    (s.aon.asleep = true → s.aon.wakePend.getLsbD 0 = true → cfgValid s.cfg = true → s.agenda = [] → s.aon.fsmEn = true →
      let c : CycleIn := s.inq.headD (Config.freeCycle s.cycle)
      c.por = false → ∃ t, Sys2Proof.core.run (c.bus.toList.length + 4) s = .next t ∧ t.aon.asleep = false)

/-- R137: once `COMBO` is decided, no step but a `POR` changes it. -/
def Obligations.ComboChangesOnlyAtPor : Prop :=
  ∀ s t : State, IdentifiesOnce s → step s = .next t →
    IdentifiesOnce t ∧
      (s.aon.combo.valid = true →
        t.aon.combo = s.aon.combo ∨
          ∃ w l rest, s.agenda = .evt w :: rest ∧ decodeEvt w = .ok (.evtPor l))

/-- R206: the failed attempts of a join visit never pass the configured bound. -/
def Obligations.JoinAttemptsBounded : Prop :=
  ∀ s t : State, JoinBounded s → step s = .next t → JoinBounded t

/-- R110, R272: the block issues requests only with the arguments R110 gives them, never a `SET_LEVEL` with level 1. -/
def Obligations.IssuedRequestsAreLegal : Prop :=
  ∀ s t : State, noLooseRequest s = true → s.trace.all requestLegal = true → step s = .next t →
    noLooseRequest t = true ∧ t.trace.all requestLegal = true

/-- R176: only `RESET_TO`, the boot load, the factory reset and `POR` can lower a total. -/
def Obligations.TotalsFallOnlyByReset : Prop :=
  ∀ (i : Instr) (s t : State) (c : Channel), exec i s = .next t → (t.acc c).total.toNat < (s.acc c).total.toNat →
    (∃ ch, i = .resetTo ch) ∨ i = .boot0 ∨ i = .boot1 ∨ i = .factoryReset1 ∨ i = .factoryReset2 ∨
      ∃ l, i = .evtPor l

/-- R8, R86: no instruction changes the configuration, nor the inputs to come; and of the store only keys 0x01, 0x02 and 0x10 are
written, a bare transaction on the request port aside. -/
def Obligations.ConfigurationAndOtherKeysUntouched : Prop :=
  ∀ (i : Instr) (s t : State), exec i s = .next t →
    t.cfg = s.cfg ∧ t.inq = s.inq ∧ t.cycle = s.cycle ∧
      ((∀ a b bytes, i ≠ .reqStoreSet a b bytes) →
        ∀ k : Nat, k ≠ 0x01 → k ≠ 0x02 → k ≠ 0x10 → Store.get k t.ds = Store.get k s.ds)

/-! ## Reset and events -/

/-- R340: `POR` puts every register at its cold value and leaves the store; so does `State.reset`. -/
def Obligations.ColdResetValues : Prop :=
  (∀ (s : State) (l : Bool),
    exec (.evtPor l) s = .next { s with aon := aonAfterPor, main := mainAfterReset, agenda := [] }) ∧
    State.reset.aon = aonAfterPor ∧ State.reset.main = mainAfterReset ∧ regValue State.reset .id = 0x43410001

/-- R316, R311: a tick advances `TIME`, wrapping; the running timer fires when the new `TIME` has reached `DEADLINE`, once. -/
def Obligations.TickAdvancesTimeAndFiresTimer : Prop :=
  ∀ (s : State) (l : Bool),
    ((s.aon.timerRun = true ∧ s.aon.deadline.toNat ≤ (s.aon.time.toNat + 1) % 2 ^ 64) →
      exec (.evtTick l) s = .next { s with aon := { s.aon with
        time := BitVec.ofNat 64 (s.aon.time.toNat + 1), wakePend := s.aon.wakePend ||| 0b0001, timerRun := false } }) ∧
    (¬(s.aon.timerRun = true ∧ s.aon.deadline.toNat ≤ (s.aon.time.toNat + 1) % 2 ^ 64) →
      exec (.evtTick l) s = .next { s with aon := { s.aon with time := BitVec.ofNat 64 (s.aon.time.toNat + 1) } })

/-- R150 to R155: a sampled rain or wind input: the synchroniser shifts; a rising edge of an armed channel outside the refractory
window is accepted, stamped, counted (or its loss recorded) and latched; every other edge changes nothing. -/
def Obligations.SampledEdgeIsCountedOnce : Prop :=
  ∀ (s : State) (v : Bool),
    (∃ b l, Samples s.cfg.refractRain s.aon.time v 0b0010 s.aon.rain b s.aon.wakePend l ∧
      exec (.evtInRain v) s = .next (withSample .rain b l s)) ∧
    (∃ b l, Samples s.cfg.refractWind s.aon.time v 0b0100 s.aon.wind b s.aon.wakePend l ∧
      exec (.evtInWind v) s = .next (withSample .wind b l s))

/-- R312, R313, R281: the button and the factory command: the synchroniser shifts; a rising edge stamps and latches the press, or sets
`FRST_PEND`; the two radio levels are taken as they are. -/
def Obligations.ButtonFactoryAndRadioInputs : Prop :=
  ∀ (s : State) (v : Bool),
    exec (.evtInAssoc v) s = .next { s with assocValid := v } ∧
    exec (.evtInIdle v) s = .next { s with radioIdle := v } ∧
    (s.aon.bsync.s1 = true ∧ s.aon.bsync.s2 = false →
      exec (.evtInBtn v) s = .next { s with aon := { s.aon with
        bsync := ⟨v, true, false⟩, btnPress := s.aon.time, wakePend := s.aon.wakePend ||| 0b1000 } }) ∧
    (¬(s.aon.bsync.s1 = true ∧ s.aon.bsync.s2 = false) →
      exec (.evtInBtn v) s = .next { s with aon := { s.aon with bsync := ⟨v, s.aon.bsync.s1, s.aon.bsync.s2⟩ } }) ∧
    (s.aon.fsync.s1 = true ∧ s.aon.fsync.s2 = false →
      exec (.evtInFactory v) s = .next { s with aon := { s.aon with fsync := ⟨v, true, false⟩, frstPend := true } }) ∧
    (¬(s.aon.fsync.s1 = true ∧ s.aon.fsync.s2 = false) →
      exec (.evtInFactory v) s = .next { s with aon := { s.aon with fsync := ⟨v, s.aon.fsync.s1, s.aon.fsync.s2⟩ } })

/-! ## Commands -/

/-- R167 to R170, R174: `NOP` changes no register but the command record; `READ_TOTAL` returns the total in `RES0` and `RES1`; `ARM`
sets `ARMED`; `RESET_TO` loads `ARG` and clears what belongs to the old total; `ACK_REPORT` restarts the since-report amount. Nothing
else of the channel changes. -/
def Obligations.PlainCommandResults : Prop :=
  ∀ (s : State) (c : Channel), s.cycEn = false →
    exec (.nop c) s = .next (commandDone 0x00 ⟨0, 0, 0, 0, 0, 0⟩ s) ∧
      exec (.readTotal c) s = .next (commandDone 0x03
        ⟨(s.acc c).total.setWidth 32, ((s.acc c).total >>> 32).setWidth 32, 0, 0, 0, 0⟩ s) ∧
      exec (.arm c) s = .next (commandDone 0x01 ⟨0, 0, 0, 0, 0, 0⟩ (s.setAcc c { s.acc c with armed := true })) ∧
      exec (.resetTo c) s = .next (commandDone 0x04 ⟨0, 0, 0, 0, 0, 0⟩
        (s.setAcc c (resetBank (s.main.argHi ++ s.main.argLo) (s.acc c)))) ∧
      exec (.ackReport c) s = .next (commandDone 0x06 ⟨0, 0, 0, 0, 0, 0⟩
        (s.setAcc c { s.acc c with reportReq := false, sinceRpt := 0 }))

/-- R163 to R166: `FLUSH` swaps `PENDING` with 0, merges it with saturation, and returns it in `RES0`. -/
def Obligations.FlushSwapsAndMerges : Prop :=
  ∀ (s : State) (c : Channel), s.cycEn = false →
    ∃ b, Flushes (unitOf s.cfg c) (threshOf s.cfg c) (s.acc c) b ∧
      exec (.flush c) s = .next (commandDone 0x02 ⟨(s.acc c).pending, 0, 0, 0, 0, 0⟩ (s.setAcc c b))

/-- R172: `SAMPLE_RATE` flushes, takes the window's count and length, stores the rate and restarts the window. -/
def Obligations.SampleRateComputesRate : Prop :=
  ∀ (s : State) (c : Channel), s.cycEn = false →
    ∃ b r, Flushes (unitOf s.cfg c) (threshOf s.cfg c) (s.acc c) b ∧
      IsRate b.winCount (unitOf s.cfg c) (s.aon.time - (s.acc c).winStart) r ∧
      exec (.sampleRate c) s = .next (commandDone 0x05
        ⟨(s.acc c).pending, b.winCount, (s.aon.time - (s.acc c).winStart).setWidth 32,
          ((s.aon.time - (s.acc c).winStart) >>> 32).setWidth 32, r.setWidth 32, (r >>> 32).setWidth 32⟩
        (s.setAcc c { b with lastRate := r, winCount := 0, winStart := s.aon.time }))

/-- R103, R300: in autonomous mode every command is refused with code 3 and changes nothing else. -/
def Obligations.CommandsRejectedInAutonomousMode : Prop :=
  ∀ (i : Instr) (s : State), formatOf i = .cmd → s.cycEn = true →
    exec i s = .next { s with main := { s.main with cmdErr := true, cmdErrCode := 3 } }

/-- R103, R104, R300: a word written to `CMD`: mode, then reserved bits, then opcode; a refused word sets `ERR` and its code; an
accepted one is the next thing the cycle does. -/
def Obligations.CommandWordCheckedInOrder : Prop :=
  ∀ (s : State) (w : Word), ¬(s.aon.asleep = true ∧ s.aon.lastVariant = true) →
    exec (.busWr 0x100 4 w) s =
      if s.cycEn = true then
        .next { s with main := { s.main with cmdErr := true, cmdErrCode := 3 }, busOut := .ok }
      else if w >>> 9 ≠ 0 then
        .next { s with main := { s.main with cmdErr := true, cmdErrCode := 2 }, busOut := .ok }
      else if 0x06 < (w.setWidth 8).toNat then
        .next { s with main := { s.main with cmdErr := true, cmdErrCode := 1 }, busOut := .ok }
      else .next { s with agenda := .cmd w :: s.agenda, busOut := .ok }

/-- R177: a second `FLUSH` with no edge between returns 0 and changes no register but the command record. -/
def Obligations.SecondFlushReturnsZero : Prop :=
  ∀ (s t : State) (c : Channel), s.cycEn = false → exec (.flush c) s = .next t →
    exec (.flush c) t = .next (commandDone 0x02 ⟨0, 0, 0, 0, 0, 0⟩ t)

/-- R162, R351: an accepted edge of a channel in the cycle of that channel's `FLUSH` is not in its delta: it is pending after it, and the next
`FLUSH` returns 1. -/
def Obligations.EdgeInFlushCycleStaysPending : Prop :=
  ∀ (s : State) (c : Channel) (v : Bool) (rest : List Slot),
    cfgValid s.cfg = true → s.cycEn = false → (s.acc c).armed = true →
      ((s.acc c).leValid = false ∨ (refractOf s.cfg c).toNat ≤ (s.aon.time - (s.acc c).lastEdge).toNat) →
      (s.acc c).sync.s1 = true → (s.acc c).sync.s2 = false →
      s.agenda = (match c with
        | .rain => [.cmd 0x00000002, .evt (if v then 0x102 else 0x002)]
        | .wind => [.cmd 0x00000102, .evt (if v then 0x103 else 0x003)]) ++ rest →
      ∃ t, Sys2Proof.core.run 2 s = .next t ∧ t.main.res.r0 = (s.acc c).pending ∧ (t.acc c).pending = 1 ∧
        (t.acc c).lastEdge = s.aon.time ∧
        (t.acc c).total.toNat = min ((s.acc c).total.toNat + (s.acc c).pending.toNat) (2 ^ 64 - 1) ∧
        ∃ u, exec (.flush c) t = .next u ∧ u.main.res.r0 = 1

/-- R175: while nothing saturates a `FLUSH` keeps `TOTAL + PENDING`. -/
def Obligations.FlushConservesCount : Prop :=
  ∀ (s t : State) (c : Channel), exec (.flush c) s = .next t → (t.acc c).totalSat = false →
    (t.acc c).total.toNat + (t.acc c).pending.toNat = (s.acc c).total.toNat + (s.acc c).pending.toNat

/-! ## Requests and the store -/

/-- R260, R261, R263, R265, R266, R268, R269: a response-bearing request that is answered puts its header and payload on the trace and
receives its response: what the collaborator answers, for `STORE_GET` what the store holds. A request standing alone as an instruction is the
model's reading (log 26), and so is the byte order of the `WAKE_CFG` payload (log 15). -/
def Obligations.AnsweredRequestsComplete : Prop :=
  ∀ (s : State) (a b : Byte) (dur : Word), s.ans.ready = true →
    exec (.reqJoin a b) s = .next (answered ((0 : Byte) ++ b ++ a ++ (0x01 : Byte)) [] (freeResponse s) s) ∧
      exec (.reqStoreGet a b) s =
        .next (answered ((0 : Byte) ++ b ++ a ++ (0x03 : Byte)) [] (storeResponse (Store.get a.toNat s.ds)) s) ∧
      exec (.reqProbe a b) s = .next (answered ((0 : Byte) ++ b ++ a ++ (0x05 : Byte)) [] (freeResponse s) s) ∧
      exec (.reqSensorRead a b) s = .next (answered ((0 : Byte) ++ b ++ a ++ (0x06 : Byte)) [] (freeResponse s) s) ∧
      exec (.reqBattSample a b) s = .next (answered ((0 : Byte) ++ b ++ a ++ (0x07 : Byte)) [] (freeResponse s) s) ∧
      exec (.reqWakeCfg a b dur) s =
        .next (answered ((0 : Byte) ++ b ++ a ++ (0x08 : Byte)) (wordBytes dur) (freeResponse s) s)

/-- R85, R264: a `STORE_SET` answered `OK` (status 0) makes the key hold the bytes; any other answer leaves every key. That it stands alone as an
instruction, with its response in `rsp`, is the model's reading (log 26). -/
def Obligations.StoreSetReplacesKeyWhenOk : Prop :=
  ∀ (s : State) (a b : Byte) (bytes : List Byte), bytes.length = b.toNat → s.ans.ready = true →
    ∃ ds, exec (.reqStoreSet a b bytes) s =
        .next { answered ((0 : Byte) ++ b ++ a ++ (0x04 : Byte)) bytes (freeResponse s) s with ds := ds } ∧
      (s.ans.status ≠ 0 → ds = s.ds) ∧
      (s.ans.status = 0 → Store.get a.toNat ds = some bytes ∧
        ∀ k, k ≠ a.toNat → Store.get k ds = Store.get k s.ds)

/-- R262, R270, R271: a fire-and-forget request is accepted at once and has no response. That it stands alone as an instruction is the model's
reading (log 26), and so is the byte order of the `REPORT` payload (log 15). -/
def Obligations.FireAndForgetRequestsComplete : Prop :=
  ∀ (s : State) (a b : Byte) (v : DWord),
    exec (.reqReport a b v) s = .next (asked ((0 : Byte) ++ b ++ a ++ (0x02 : Byte)) (le64 v) s) ∧
      exec (.reqSetLevel a b) s = .next (asked ((0 : Byte) ++ b ++ a ++ (0x09 : Byte)) [] s) ∧
      exec (.reqSleepReq a b) s = .next (asked ((0 : Byte) ++ b ++ a ++ (0x0A : Byte)) [] s)

/-- R260, R371, R201: while the collaborator does not answer, a request that needs an answer, every micro-step that always issues one, and
`BOOT.0` on a cold reset wait and change nothing. The seven requests standing alone as instructions are the model's reading (log 26). -/
def Obligations.UnansweredRequestsWait : Prop :=
  ∀ (s : State) (a b : Byte) (bytes : List Byte) (d : Word), s.ans.ready = false →
    (∀ i ∈ [Instr.reqJoin a b, .reqStoreGet a b, .reqStoreSet a b bytes, .reqProbe a b, .reqSensorRead a b,
        .reqBattSample a b, .reqWakeCfg a b d, .boot1, .boot2, .join0, .join2, .activeSession2, .activeSession3,
        .activeSession4, .enterSleep5, .factoryReset0, .factoryReset1, .factoryReset2],
      exec i s = .next s) ∧
    (s.aon.wakeCause = 4 → exec .boot0 s = .next s)

/-- R85, R96, R263: a `STORE_GET` after an `OK` `STORE_SET` of its key returns the bytes written. Both standing alone as instructions, and the
response in `rsp`, are the model's reading (log 26). -/
def Obligations.StoreGetSeesLastStoreSet : Prop :=
  ∀ (s t u : State) (a b b' : Byte) (bytes : List Byte), bytes.length = b.toNat → s.ans.ready = true →
    s.ans.status = 0 → exec (.reqStoreSet a b bytes) s = .next t → exec (.reqStoreGet a b') t = .next u →
      u.rsp = some ⟨0, 0, bytes⟩

/-! ## The register bus -/

/-- R75, R79, R80: a legal read of a mapped word returns its value and has no side effect, but that a `*_LO` word latches the high half
of its register into `SHADOW`. -/
def Obligations.LegalReadReturnsRegister : Prop :=
  ∀ (s : State) (addr : BitVec 12) (r : Reg), (addr.toNat, r) ∈ regMap →
    ¬(s.aon.asleep = true ∧ s.aon.lastVariant = true) →
      ((∀ x, r ≠ .lo x) → exec (.busRd addr 4) s = .next { s with busOut := .data (regValue s r) }) ∧
        (∀ x, r = .lo x → exec (.busRd addr 4) s = .next { s with
          busOut := .data ((wideValue s x).setWidth 32)
          main := { s.main with shadow := ((wideValue s x) >>> 32).setWidth 32 } })

/-- R26, R28 to R32, R36 to R39, R41 to R47, R52 to R55, R59, R60: what every word of the map that is no half of a 64-bit register returns, the
status words with every field at its place and every reserved bit 0. The word at 0x234 is read as log 22 says, and `INPUTS` without
`FSYNC.s2` as log 28 says. -/
def Obligations.RegisterWordsRead : Prop :=
  ∀ (s : State), ¬(s.aon.asleep = true ∧ s.aon.lastVariant = true) →
    ∀ p ∈ bankWords 0x000 s.aon.rain s.cfg.refractRain s.cfg.unitRain s.cfg.threshRain ++
        bankWords 0x040 s.aon.wind s.cfg.refractWind s.cfg.unitWind s.cfg.threshWind ++ globalWords s ++ configWords s.cfg,
      exec (.busRd p.1 4) s = .next { s with busOut := .data p.2 }

/-- R25, R27, R33, R34, R40, R48 to R51, R56 to R58, R61, R79: what the words of the 64-bit registers return: the `*_LO` word the low half,
the high half going to `SHADOW`, and the `*_HI` word `SHADOW`. -/
def Obligations.WideRegisterWordsRead : Prop :=
  ∀ (s : State), ¬(s.aon.asleep = true ∧ s.aon.lastVariant = true) →
    ∀ p ∈ [((0x000 : BitVec 12), s.aon.rain.total), (0x040, s.aon.wind.total), (0x00C, s.aon.rain.lastEdge),
        (0x04C, s.aon.wind.lastEdge), (0x030, s.aon.rain.winStart), (0x070, s.aon.wind.winStart),
        (0x038, s.aon.rain.lastRate), (0x078, s.aon.wind.lastRate), (0x128, s.aon.time), (0x150, s.aon.deadline),
        (0x158, s.main.sessionStart), (0x160, s.main.waitUntil), (0x168, s.aon.btnPress), (0x180, s.aon.lastBatt),
        (0x188, s.aon.battAt), (0x190, s.main.svalT), (0x198, s.main.svalH), (0x1A0, s.main.svalP)],
      exec (.busRd p.1 4) s = .next { s with
          busOut := .data (p.2.setWidth 32), main := { s.main with shadow := (p.2 >>> 32).setWidth 32 } } ∧
        exec (.busRd (p.1 + 4) 4) s = .next { s with busOut := .data s.main.shadow }

/-- R79, R82: a `*_LO` read and a later read of any `*_HI` word, with `SHADOW` not written between, give the 64-bit value the register
held at the first read, whatever became of it. -/
def Obligations.PairedReadIsSnapshot : Prop :=
  ∀ (s t u v : State) (lo hi : BitVec 12) (x y : Wide), (lo.toNat, Reg.lo x) ∈ regMap → (hi.toNat, Reg.hi y) ∈ regMap →
    ¬(s.aon.asleep = true ∧ s.aon.lastVariant = true) → ¬(u.aon.asleep = true ∧ u.aon.lastVariant = true) →
    exec (.busRd lo 4) s = .next t → u.main.shadow = t.main.shadow → exec (.busRd hi 4) u = .next v →
      ∃ l h : Word, t.busOut = .data l ∧ v.busOut = .data h ∧ h ++ l = wideValue s x

/-- R65, R74, R76, R301: a misaligned, wrong-size or unmapped access, or any access in a DEEP suspension, drives `BUS_ERR` and does
nothing else. -/
def Obligations.IllegalAccessRaisesBusError : Prop :=
  ∀ (s : State) (addr : BitVec 12) (size : BitVec 3) (w : Word),
    size ≠ 4 ∨ addr.toNat % 4 ≠ 0 ∨ (s.aon.asleep = true ∧ s.aon.lastVariant = true) ∨
        (0x080 ≤ addr.toNat ∧ addr.toNat ≤ 0x0FC) ∨ (0x1A8 ≤ addr.toNat ∧ addr.toNat ≤ 0x1FC) ∨ 0x240 ≤ addr.toNat →
      exec (.busRd addr size) s = .next { s with busOut := .err addr } ∧
        exec (.busWr addr size w) s = .next { s with busOut := .err addr }

/-- R23, R28, R37, R38, R42, R75: what a legal write does by access type: the RW words take it, the W1C bits clear where it is 1, every
other mapped word but `CMD` ignores it (`CMD` is `CommandWordCheckedInOrder`). -/
def Obligations.WritesFollowAccessType : Prop :=
  ∀ (s : State) (w : Word), ¬(s.aon.asleep = true ∧ s.aon.lastVariant = true) →
    let cleared (a : AccBank) : AccBank := { a with
      pendOvf := a.pendOvf && !w.getLsbD 2, totalSat := a.totalSat && !w.getLsbD 3, auxSat := a.auxSat && !w.getLsbD 5 }
    exec (.busWr 0x104 4 w) s = .next { s with main := { s.main with argLo := w }, busOut := .ok } ∧
      exec (.busWr 0x108 4 w) s = .next { s with main := { s.main with argHi := w }, busOut := .ok } ∧
      exec (.busWr 0x134 4 w) s = .next { s with aon := { s.aon with fsmEn := w.getLsbD 0 }, busOut := .ok } ∧
      exec (.busWr 0x014 4 w) s = .next { s with aon := { s.aon with rain := cleared s.aon.rain }, busOut := .ok } ∧
      exec (.busWr 0x054 4 w) s = .next { s with aon := { s.aon with wind := cleared s.aon.wind }, busOut := .ok } ∧
      exec (.busWr 0x10C 4 w) s = .next { s with
        main := if w.getLsbD 0 then { s.main with cmdErr := false, cmdErrCode := 0 } else s.main, busOut := .ok } ∧
      ∀ addr : BitVec 12, (∃ r, (addr.toNat, r) ∈ regMap) →
        addr ∉ ([0x014, 0x054, 0x100, 0x104, 0x108, 0x10C, 0x134] : List (BitVec 12)) →
          exec (.busWr addr 4 w) s = .next { s with busOut := .ok }

/-! ## BOOT and JOIN_NETWORK -/

/-- R201, R203, R88: `BOOT.0` on a cold reset and `BOOT.1` load the stored totals, `BOOT.2` the stored association (1 for the one
byte 0x01, else 0); `BOOT.0` otherwise goes to `BOOT.3`. Without an answer they wait (`UnansweredRequestsWait`). That `BOOT.0` loads after
a factory reset with no wake since `POR` too is R201 and R202, against a remark of R247 (log 29). -/
def Obligations.BootLoadsStoredState : Prop :=
  ∀ (s : State),
    (s.aon.wakeCause ≠ 4 → exec .boot0 s = .next (atStep 0 3 s)) ∧
    (s.aon.wakeCause = 4 → s.ans.ready = true →
      ∃ v, LoadedTotal (Store.get 0x01 s.ds) v ∧
        exec .boot0 s = .next (atStep 0 1 (answered 0x00000103 [] (storeResponse (Store.get 0x01 s.ds))
          (s.setAcc .rain (resetBank v s.aon.rain))))) ∧
    (s.ans.ready = true →
      ∃ v, LoadedTotal (Store.get 0x02 s.ds) v ∧
        exec .boot1 s = .next (atStep 0 2 (answered 0x00000203 [] (storeResponse (Store.get 0x02 s.ds))
          (s.setAcc .wind (resetBank v s.aon.wind))))) ∧
    (s.ans.ready = true →
      exec .boot2 s = .next (atStep 0 3 (answered 0x00001003 [] (storeResponse (Store.get 0x10 s.ds))
        { s with main := { s.main with assocStored := decide (Store.get 0x10 s.ds = some [0x01]) } })))

/-- R204: `BOOT.3` arms both channels, and joins when a cold boot has no stored association or a join is owed. -/
def Obligations.BootArmsAndDispatches : Prop :=
  ∀ (s : State),
    let armed : State := { s with aon := { s.aon with
      rain := { s.aon.rain with armed := true }, wind := { s.aon.wind with armed := true } } }
    ((s.aon.wakeCause = 4 ∧ s.main.assocStored = false) ∨ s.aon.joinPending = true →
      exec .boot3 s = .next (atStep 1 0 { armed with main := { s.main with joinTry := 0 } })) ∧
    (¬((s.aon.wakeCause = 4 ∧ s.main.assocStored = false) ∨ s.aon.joinPending = true) →
      exec .boot3 s = .next (atStep 2 0 armed))

/-- R205, R206: a join attempt: `OK` goes on; a failure backs off, doubling up to `MAX_32` ticks, and the last one owes a join and a
long sleep. The attempt counter is below the bound, which `JoinAttemptsBounded` says of every reachable state. -/
def Obligations.JoinAttemptOutcome : Prop :=
  ∀ (s : State), s.ans.ready = true → s.main.joinTry.toNat < s.cfg.joinAttempts.toNat →
    let u := answered 0x00000001 [] (freeResponse s) s
    let n := s.main.joinTry.toNat + 1
    (s.ans.status = 0 → exec .join0 s = .next (atStep 1 2 u)) ∧
    (s.ans.status ≠ 0 → n < s.cfg.joinAttempts.toNat →
      exec .join0 s = .next (atStep 1 1 { u with main := { s.main with
        joinTry := s.main.joinTry + 1
        waitUntil := BitVec.ofNat 64 (min (s.aon.time.toNat + min (s.cfg.joinBackoff.toNat * 2 ^ (n - 1)) (2 ^ 32 - 1))
          (2 ^ 64 - 1)) } })) ∧
    (s.ans.status ≠ 0 → n = s.cfg.joinAttempts.toNat →
      exec .join0 s = .next (atStep 3 0 { u with
        aon := { s.aon with joinPending := true }
        main := { s.main with joinTry := s.main.joinTry + 1, longSleep := true } }))

/-- R207: `JOIN.1` waits for `WAIT_UNTIL` and then goes back to `JOIN.0`. -/
def Obligations.JoinBackoffWaits : Prop :=
  ∀ (s : State),
    (s.main.waitUntil.toNat ≤ s.aon.time.toNat → exec .join1 s = .next (atStep 1 0 s)) ∧
      (s.aon.time.toNat < s.main.waitUntil.toNat → exec .join1 s = .next s)

/-- R208: `JOIN.2` stores the association, whatever the store answers owes no join any more, and starts a session. -/
def Obligations.JoinSuccessStoresAssociation : Prop :=
  ∀ (s : State), s.ans.ready = true →
    ∃ ds, exec .join2 s = .next (atStep 2 0 { answered 0x00011004 [0x01] (freeResponse s) s with
        ds := ds
        aon := { s.aon with joinPending := false }
        main := { s.main with assocStored := true } }) ∧
      (s.ans.status ≠ 0 → ds = s.ds) ∧
      (s.ans.status = 0 → Store.get 0x10 ds = some [0x01] ∧ ∀ k, k ≠ 0x10 → Store.get k ds = Store.get k s.ds)

/-! ## ACTIVE_SESSION -/

/-- R210, R133: `ACTIVE_SESSION.0` starts the session and clears the timer and edge latches, not the button's; `.1` skips
identification when it is cached. -/
def Obligations.SessionStartAndCacheCheck : Prop :=
  ∀ (s : State),
    exec .activeSession0 s = .next (atStep 2 1 { s with
      aon := { s.aon with wakePend := s.aon.wakePend &&& 0b1000 }
      main := { s.main with sessionStart := s.aon.time, fullPath := true, battNew := false, tryCount := 0 } }) ∧
    (s.aon.combo.valid = true → exec .activeSession1 s = .next (atStep 2 5 s)) ∧
    (s.aon.combo.valid = false →
      exec .activeSession1 s = .next (atStep 2 2 { s with main := { s.main with tryCount := 0 } }))

/-- R130 to R138: the three probes: where a `MATCH` (status 0), a `MISMATCH` (1) and a bus error (any other) lead, and the `COMBO` word
each decision writes. -/
def Obligations.ProbesDecideCombo : Prop :=
  ∀ (s : State), s.ans.ready = true →
    ∀ p ∈ [(Instr.activeSession2, (0x00000105 : Word), (2 : BitVec 5), some 1, (5 : BitVec 5), none, (3 : BitVec 5)),
        (.activeSession3, 0x00000205, 3, none, 4, some 4, 5), (.activeSession4, 0x00000305, 4, some 2, 5, some 3, 5)],
      let (i, hdr, k, foundRule, foundStep, absentRule, absentStep) := p
      let u := answered hdr [] (freeResponse s) s
      let decided (rule : Option Nat) (k' : BitVec 5) (t : State) : Prop :=
        ∃ combo, t = atStep 2 k' { u with aon := { s.aon with combo := combo }, main := { s.main with tryCount := 0 } } ∧
          (rule = none → combo = s.aon.combo) ∧ ∀ n, rule = some n → combo.word = comboWordOfRule n
      ∃ t, exec i s = .next t ∧
        (s.ans.status = 0 → decided foundRule foundStep t) ∧ (s.ans.status = 1 → decided absentRule absentStep t) ∧
        (s.ans.status ≠ 0 → s.ans.status ≠ 1 →
          (s.main.tryCount.toNat < s.cfg.probeRetries.toNat →
            t = atStep 2 k { u with main := { s.main with tryCount := s.main.tryCount + 1 } }) ∧
          (s.cfg.probeRetries.toNat ≤ s.main.tryCount.toNat → decided absentRule absentStep t))

/-- R212, R213: the session flushes rain, then flushes wind and samples its rate, without touching the command registers. -/
def Obligations.SessionFlushesBothChannels : Prop :=
  ∀ (s : State),
    (∃ b, Flushes s.cfg.unitRain s.cfg.threshRain s.aon.rain b ∧
      exec .activeSession5 s = .next (atStep 2 6 (s.setAcc .rain b))) ∧
    (∃ b r, Flushes s.cfg.unitWind s.cfg.threshWind s.aon.wind b ∧
      IsRate b.winCount s.cfg.unitWind (s.aon.time - s.aon.wind.winStart) r ∧
      exec .activeSession6 s = .next (atStep 2 7
        (s.setAcc .wind { b with lastRate := r, winCount := 0, winStart := s.aon.time })))

/-- R214, R216: the battery is sampled when it is due; the attempt is stamped; only a success replaces the sample. That the millivolts are the
low 32 bits of the response's number is the model's reading (log 16). -/
def Obligations.BatterySampledWhenDue : Prop :=
  ∀ (s : State),
    let u := answered 0x00000007 [] (freeResponse s) s
    (¬BattDue s → exec .activeSession7 s = .next (atStep 2 8 s)) ∧
    (BattDue s → s.ans.ready = false → exec .activeSession7 s = .next s) ∧
    (BattDue s → s.ans.ready = true → s.ans.status ≠ 0 →
      exec .activeSession7 s = .next (atStep 2 8 { u with aon := { s.aon with
        lastBatt := s.aon.time, lbtValid := true } })) ∧
    (BattDue s → s.ans.ready = true → s.ans.status = 0 →
      exec .activeSession7 s = .next (atStep 2 8 { u with
        aon := { s.aon with
          lastBatt := s.aon.time, lbtValid := true, battMv := s.ans.data.setWidth 32
          battPct := pct s.cfg (s.ans.data.setWidth 32), battValid := true, battAt := s.aon.time }
        main := { s.main with battNew := true } }))

/-- R215: the percentage: 0 up to the low bound, 100 from the high bound, nearest with halves up between, at most 100, and monotonic
non-decreasing in the voltage. -/
def Obligations.PercentageIsMonotonic : Prop :=
  ∀ (g : Cfg), g.battLoMv.toNat < g.battHiMv.toNat →
    (∀ mv : Word, mv.toNat ≤ g.battLoMv.toNat → pct g mv = 0) ∧
      (∀ mv : Word, g.battHiMv.toNat ≤ mv.toNat → pct g mv = 100) ∧
      (∀ mv : Word, g.battLoMv.toNat < mv.toNat → mv.toNat < g.battHiMv.toNat →
        (pct g mv).toNat = (200 * (mv.toNat - g.battLoMv.toNat) + (g.battHiMv.toNat - g.battLoMv.toNat)) /
          (2 * (g.battHiMv.toNat - g.battLoMv.toNat))) ∧
      (∀ mv mv' : Word, mv.toNat ≤ mv'.toNat → (pct g mv).toNat ≤ (pct g mv').toNat) ∧
      ∀ mv : Word, (pct g mv).toNat ≤ 100

/-- R217: a sensor read: no provider gives the sentinel without a request; `OK` gives the value; a failure is tried again up to
`PROBE_RETRIES` times and then gives the sentinel. `COMBO` never changes. -/
def Obligations.SensorReadsWithRetry : Prop :=
  ∀ (s : State),
    ∀ p ∈ [(Instr.activeSession8, s.aon.combo.tSrc, (0 : Byte), s.cfg.sentinelT, (8 : BitVec 5), (9 : BitVec 5),
          fun (v : DWord) (m : Main) => ({ m with svalT := v } : Main)),
        (.activeSession9, s.aon.combo.hSrc, 1, s.cfg.sentinelH, 9, 10, fun v m => { m with svalH := v }),
        (.activeSession10, s.aon.combo.pSrc, 2, s.cfg.sentinelP, 10, 11, fun v m => { m with svalP := v })],
      let (i, src, q, sentinel, k, k', put) := p
      let u := answered ((0 : Byte) ++ q ++ src.setWidth 8 ++ (0x06 : Byte)) [] (freeResponse s) s
      let done (v : DWord) (t : State) : State := atStep 2 k' { t with main := { put v t.main with tryCount := 0 } }
      (src = 0 → exec i s = .next (done sentinel s)) ∧
        (src ≠ 0 → s.ans.ready = false → exec i s = .next s) ∧
        (src ≠ 0 → s.ans.ready = true → s.ans.status = 0 → exec i s = .next (done s.ans.data u)) ∧
        (src ≠ 0 → s.ans.ready = true → s.ans.status ≠ 0 → s.main.tryCount.toNat < s.cfg.probeRetries.toNat →
          exec i s = .next (atStep 2 k { u with main := { s.main with tryCount := s.main.tryCount + 1 } })) ∧
        (src ≠ 0 → s.ans.ready = true → s.ans.status ≠ 0 → s.cfg.probeRetries.toNat ≤ s.main.tryCount.toNat →
          exec i s = .next (done sentinel u))

/-- R218 to R223, R112: the session's reports: a total only when one is owed, and then it is acknowledged; the rate and the sensor values
always; the battery values only when newly sampled. The byte order of the payloads is the model's reading (log 15). -/
def Obligations.SessionReports : Prop :=
  ∀ (s : State),
    (s.aon.rain.reportReq = true → exec .activeSession11 s = .next (atStep 2 12
      (asked 0x00000002 (le64 s.aon.rain.total)
        { s with aon := { s.aon with rain := { s.aon.rain with reportReq := false, sinceRpt := 0 } } }))) ∧
    (s.aon.rain.reportReq = false → exec .activeSession11 s = .next (atStep 2 12 s)) ∧
    (s.aon.wind.reportReq = true → exec .activeSession12 s = .next (atStep 2 13
      (asked 0x00000102 (le64 s.aon.wind.total)
        { s with aon := { s.aon with wind := { s.aon.wind with reportReq := false, sinceRpt := 0 } } }))) ∧
    (s.aon.wind.reportReq = false → exec .activeSession12 s = .next (atStep 2 13 s)) ∧
    exec .activeSession13 s = .next (atStep 2 14 (asked 0x00000202 (le64 s.aon.wind.lastRate) s)) ∧
    exec .activeSession14 s = .next (atStep 2 15 (asked 0x00000302 (le64 s.main.svalT) s)) ∧
    exec .activeSession15 s = .next (atStep 2 16 (asked 0x00000402 (le64 s.main.svalH) s)) ∧
    exec .activeSession16 s = .next (atStep 2 17 (asked 0x00000502 (le64 s.main.svalP) s)) ∧
    (s.main.battNew = true → exec .activeSession17 s = .next (atStep 2 18
      (asked 0x00000602 (le64 (s.aon.battMv.setWidth 64)) s))) ∧
    (s.main.battNew = false → exec .activeSession17 s = .next (atStep 2 18 s)) ∧
    (s.main.battNew = true → exec .activeSession18 s = .next (atStep 2 19
      (asked 0x00000702 (le64 (s.aon.battPct.setWidth 64)) s))) ∧
    (s.main.battNew = false → exec .activeSession18 s = .next (atStep 2 19 s))

/-- R224: `ACTIVE_SESSION.19` waits for the radio to be idle or for the session's timeout. -/
def Obligations.RadioWaitIsBounded : Prop :=
  ∀ (s : State),
    (s.radioIdle = true ∨ s.cfg.activeTimeout.toNat ≤ (s.aon.time - s.main.sessionStart).toNat →
      exec .activeSession19 s = .next (atStep 3 0 s)) ∧
    (¬(s.radioIdle = true ∨ s.cfg.activeTimeout.toNat ≤ (s.aon.time - s.main.sessionStart).toNat) →
      exec .activeSession19 s = .next s)

/-! ## ENTER_SLEEP and SLEEPING -/

/-- R230, R231: every gate pin is driven low, in list order; then a pending factory command leads to `FACTORY_RESET.0`. -/
def Obligations.GatesLowThenFactoryCheck : Prop :=
  ∀ (s : State),
    exec .enterSleep0 s = .next (atStep 3 1 { s with
      trace := s.trace ++ s.cfg.gatePins.map fun p => ⟨(0 : Byte) ++ (0 : Byte) ++ p ++ (0x09 : Byte), []⟩ }) ∧
    (s.aon.frstPend = true → exec .enterSleep1 s = .next (atStep 6 0 s)) ∧
    (s.aon.frstPend = false → exec .enterSleep1 s = .next (atStep 3 2 s))

/-- R232, R233: a total is written when it is due; only an `OK` clears `DUR_EDGES` and changes the store, at the channel's key. -/
def Obligations.DurableWriteWhenDue : Prop :=
  ∀ (s : State),
    ∀ p ∈ [(Instr.enterSleep2, Channel.rain, (0x00080104 : Word), 0x01, (3 : BitVec 5)),
        (.enterSleep3, .wind, 0x00080204, 0x02, 4)],
      let (i, c, hdr, key, k') := p
      let a := s.acc c
      let u := answered hdr (le64 a.total) (freeResponse s) s
      (¬PersistDue s.cfg s.main.fullPath a → exec i s = .next (atStep 3 k' s)) ∧
        (PersistDue s.cfg s.main.fullPath a → s.ans.ready = false → exec i s = .next s) ∧
        (PersistDue s.cfg s.main.fullPath a → s.ans.ready = true → s.ans.status ≠ 0 →
          exec i s = .next (atStep 3 k' u)) ∧
        (PersistDue s.cfg s.main.fullPath a → s.ans.ready = true → s.ans.status = 0 →
          ∃ ds, exec i s = .next (atStep 3 k' ({ u with ds := ds }.setAcc c { a with durEdges := 0 })) ∧
            Store.get key ds = some (le64 a.total) ∧ ∀ k, k ≠ key → Store.get k ds = Store.get k s.ds)

/-- R234: the sleep plan: the timer always, the edges and the button and LIGHT only with a valid association and no join owed; the
deadline restarted only when the timer is not running or a long sleep is due; the remaining ticks. -/
def Obligations.SleepPlanIsBuilt : Prop :=
  ∀ (s : State),
    let restart := s.aon.timerRun = false ∨ s.main.longSleep = true
    let ticks := if s.main.longSleep then s.cfg.joinFailInterval else s.cfg.sleepInterval
    let av := s.assocValid && !s.aon.joinPending
    ∃ deadline : DWord, ∃ dur : Word,
      (restart → deadline.toNat = min (s.aon.time.toNat + ticks.toNat) (2 ^ 64 - 1)) ∧
      (¬restart → deadline = s.aon.deadline) ∧
      dur.toNat = min (deadline.toNat - s.aon.time.toNat) (2 ^ 32 - 1) ∧
      exec .enterSleep4 s = .next (atStep 3 5 { s with
        aon := { s.aon with deadline := deadline, timerRun := true }
        main := { s.main with
          planArm := if av then 0b1111 else 0b0001, planRetain := av, longSleep := false, sleepDur := dur } })

/-- R235, R236: the plan is given to the wake platform; `OK` arms it; a failure never suspends but plans again after
`ARM_RETRY_DELAY`. The byte order of the `WAKE_CFG` payload is the model's reading (log 15). -/
def Obligations.ArmingOrRetry : Prop :=
  ∀ (s : State),
    let hdr : Word := (0 : Byte) ++ (if s.main.planRetain then 0 else 1 : Byte) ++ s.main.planArm.setWidth 8 ++ (0x08 : Byte)
    let u := answered hdr (wordBytes s.main.sleepDur) (freeResponse s) s
    (s.ans.ready = true → s.ans.status = 0 →
      exec .enterSleep5 s = .next (atStep 3 7 { u with aon := { s.aon with wakeArm := s.main.planArm } })) ∧
    (s.ans.ready = true → s.ans.status ≠ 0 →
      exec .enterSleep5 s = .next (atStep 3 6 { u with main := { s.main with
        waitUntil := BitVec.ofNat 64 (min (s.aon.time.toNat + s.cfg.armRetryDelay.toNat) (2 ^ 64 - 1)) } })) ∧
    (s.main.waitUntil.toNat ≤ s.aon.time.toNat → exec .enterSleep6 s = .next (atStep 3 4 s)) ∧
    (s.aon.time.toNat < s.main.waitUntil.toNat → exec .enterSleep6 s = .next s)

/-- R237, R240: an armed source that has fired is processed; otherwise the block suspends, and a DEEP suspension owes a join. That a DEEP
suspension has `FSM_EN` 1 even after a write of 0 in its cycle is the model's choice (log 20). -/
def Obligations.RaceCheckThenSuspend : Prop :=
  ∀ (s : State),
    let m : Main := { s.main with fullPath := false }
    (s.aon.wakePend &&& s.aon.wakeArm ≠ 0 → exec .enterSleep7 s = .next (atStep 5 0 { s with main := m })) ∧
    (s.aon.wakePend &&& s.aon.wakeArm = 0 → s.main.planRetain = true →
      exec .enterSleep7 s = .next (atStep 4 0 (asked 0x0000000A []
        { s with main := m, aon := { s.aon with lastVariant := false, asleep := true } }))) ∧
    (s.aon.wakePend &&& s.aon.wakeArm = 0 → s.main.planRetain = false →
      exec .enterSleep7 s = .next (atStep 4 0 (asked 0x0000010A []
        { s with main := m, aon := { s.aon with lastVariant := true, joinPending := true, asleep := true, fsmEn := true } })))

/-- R240, R341, R342: an armed latch ends the suspension: LIGHT keeps everything and goes to `WAKE.0`; DEEP dispatches the source and
resets the MAIN domain, every AON register kept; without one the block stays suspended. -/
def Obligations.SuspensionEndsOnArmedLatch : Prop :=
  ∀ (s : State),
    let m := s.aon.wakePend &&& s.aon.wakeArm
    let awake : State := { s with aon := { s.aon with asleep := false } }
    (m = 0 → exec .sleeping0 s = .next s) ∧
    (m ≠ 0 → s.aon.lastVariant = false → exec .sleeping0 s = .next (atStep 5 0 awake)) ∧
    (m ≠ 0 → s.aon.lastVariant = true → exec .sleeping0 s = .next { served m awake with main := mainAfterReset })

/-! ## WAKE and FACTORY_RESET -/

/-- R241, R314: `WAKE.0` serves one armed latch, button first, then timer, rain, wind, and chooses the path. -/
def Obligations.WakeDispatchByPriority : Prop :=
  ∀ (s : State),
    let m := s.aon.wakePend &&& s.aon.wakeArm
    let u := served m s
    let k := (servedBit m).1
    (m = 0 → exec .wake0 s = .next (atStep 3 0 s)) ∧
    (m ≠ 0 → k = 0b1000 → exec .wake0 s = .next (atStep 5 1 u)) ∧
    (m ≠ 0 → k = 0b0001 → s.aon.joinPending = true →
      exec .wake0 s = .next (atStep 1 0 { u with main := { s.main with joinTry := 0 } })) ∧
    (m ≠ 0 → k = 0b0001 → s.aon.joinPending = false → exec .wake0 s = .next (atStep 2 0 u)) ∧
    (m ≠ 0 → k = 0b0010 ∨ k = 0b0100 → s.assocValid = true → exec .wake0 s = .next (atStep 5 2 u)) ∧
    (m ≠ 0 → k = 0b0010 ∨ k = 0b0100 → s.assocValid = false → exec .wake0 s = .next (atStep 2 0 u))

/-- R242: the button hold: released, a session; held for `BTN_HOLD` ticks, the factory reset; else the wait goes on. -/
def Obligations.ButtonHoldDecides : Prop :=
  ∀ (s : State),
    (s.aon.bsync.s2 = false → exec .wake1 s = .next (atStep 2 0 s)) ∧
    (s.aon.bsync.s2 = true → s.cfg.btnHold.toNat ≤ (s.aon.time - s.aon.btnPress).toNat →
      exec .wake1 s = .next (atStep 6 0 s)) ∧
    (s.aon.bsync.s2 = true → (s.aon.time - s.aon.btnPress).toNat < s.cfg.btnHold.toNat → exec .wake1 s = .next s)

/-- R243, R245: the fast path flushes the triggering channel only, and reports its total if that is owed. The byte order of the `REPORT`
payload is the model's reading (log 15). -/
def Obligations.FastPathServesOneChannel : Prop :=
  ∀ (s : State),
    let c := if s.aon.wakeCause = 1 then Channel.rain else .wind
    let n : Byte := if s.aon.wakeCause = 1 then 0 else 1
    (∃ b, Flushes (unitOf s.cfg c) (threshOf s.cfg c) (s.acc c) b ∧
      exec .wake2 s = .next (atStep 5 3 (s.setAcc c b))) ∧
    ((s.acc c).reportReq = true → exec .wake3 s = .next (atStep 3 0
      (asked ((0 : Byte) ++ (0 : Byte) ++ n ++ (0x02 : Byte)) (le64 (s.acc c).total)
        (s.setAcc c { s.acc c with reportReq := false, sinceRpt := 0 })))) ∧
    ((s.acc c).reportReq = false → exec .wake3 s = .next (atStep 3 0 s))

/-- R246, R341: the factory reset: the stored association and both totals cleared whatever the store answers, the pending count and
the rate window with them; then the restart, which owes a join. -/
def Obligations.FactoryResetClears : Prop :=
  ∀ (s : State),
    (s.ans.ready = true →
      (∃ ds, exec .factoryReset0 s =
          .next (atStep 6 1 { answered 0x00011004 [0x00] (freeResponse s) s with ds := ds }) ∧
        (s.ans.status ≠ 0 → ds = s.ds) ∧
        (s.ans.status = 0 → Store.get 0x10 ds = some [0x00] ∧ ∀ k, k ≠ 0x10 → Store.get k ds = Store.get k s.ds)) ∧
      ∀ p ∈ [(Instr.factoryReset1, Channel.rain, (0x00080104 : Word), 0x01, (2 : BitVec 5)),
          (.factoryReset2, .wind, 0x00080204, 0x02, 3)],
        let (i, c, hdr, key, k') := p
        let b : AccBank := { resetBank 0 (s.acc c) with
          pending := 0, winCount := 0, winStart := s.aon.time, lastRate := 0 }
        ∃ ds, exec i s =
            .next (atStep 6 k' ({ answered hdr [0, 0, 0, 0, 0, 0, 0, 0] (freeResponse s) s with ds := ds }.setAcc c b)) ∧
          (s.ans.status ≠ 0 → ds = s.ds) ∧
          (s.ans.status = 0 → Store.get key ds = some [0, 0, 0, 0, 0, 0, 0, 0] ∧
            ∀ k, k ≠ key → Store.get k ds = Store.get k s.ds)) ∧
    exec .factoryReset3 s = .next { s with
      aon := { s.aon with frstPend := false, joinPending := true, wakePend := s.aon.wakePend &&& 0b0111 }
      main := mainAfterReset }
end

