-- ==== Sys2Proof/Laws/State.lean ====
section
/-! SUPPORT. One lemma for each state update and each field of State: what the field holds after the update. -/

namespace Sys2Proof.Machine

/-! ## Channels -/

@[simp] theorem State.acc_rain (s : State) : s.acc .rain = s.aon.rain := rfl
@[simp] theorem State.acc_wind (s : State) : s.acc .wind = s.aon.wind := rfl
@[simp] theorem State.acc_setAcc (c : Channel) (a : AccBank) (s : State) : (s.setAcc c a).acc c = a := by cases c <;> rfl
theorem State.acc_setAcc_of_ne {c d : Channel} (h : d ≠ c) (a : AccBank) (s : State) :
    (s.setAcc c a).acc d = s.acc d := by cases c <;> cases d <;> first | rfl | exact absurd rfl h
@[simp] theorem State.setAcc_acc (c : Channel) (s : State) : s.setAcc c (s.acc c) = s := by cases c <;> rfl
@[simp] theorem State.setAcc_setAcc (c : Channel) (a b : AccBank) (s : State) :
    (s.setAcc c a).setAcc c b = s.setAcc c b := by cases c <;> rfl

/-! ## `setAcc` -/

@[simp] theorem State.setAcc_main (c : Channel) (a : AccBank) (s : State) :
    (s.setAcc c a).main = s.main := by cases c <;> rfl
@[simp] theorem State.setAcc_cfg (c : Channel) (a : AccBank) (s : State) : (s.setAcc c a).cfg = s.cfg := by cases c <;> rfl
@[simp] theorem State.setAcc_ds (c : Channel) (a : AccBank) (s : State) : (s.setAcc c a).ds = s.ds := by cases c <;> rfl
@[simp] theorem State.setAcc_assocValid (c : Channel) (a : AccBank) (s : State) :
    (s.setAcc c a).assocValid = s.assocValid := by cases c <;> rfl
@[simp] theorem State.setAcc_radioIdle (c : Channel) (a : AccBank) (s : State) :
    (s.setAcc c a).radioIdle = s.radioIdle := by cases c <;> rfl
@[simp] theorem State.setAcc_ans (c : Channel) (a : AccBank) (s : State) : (s.setAcc c a).ans = s.ans := by cases c <;> rfl
@[simp] theorem State.setAcc_busOut (c : Channel) (a : AccBank) (s : State) :
    (s.setAcc c a).busOut = s.busOut := by cases c <;> rfl
@[simp] theorem State.setAcc_rsp (c : Channel) (a : AccBank) (s : State) : (s.setAcc c a).rsp = s.rsp := by cases c <;> rfl
@[simp] theorem State.setAcc_trace (c : Channel) (a : AccBank) (s : State) :
    (s.setAcc c a).trace = s.trace := by cases c <;> rfl
@[simp] theorem State.setAcc_cycEn (c : Channel) (a : AccBank) (s : State) :
    (s.setAcc c a).cycEn = s.cycEn := by cases c <;> rfl
@[simp] theorem State.setAcc_agenda (c : Channel) (a : AccBank) (s : State) :
    (s.setAcc c a).agenda = s.agenda := by cases c <;> rfl
@[simp] theorem State.setAcc_inq (c : Channel) (a : AccBank) (s : State) : (s.setAcc c a).inq = s.inq := by cases c <;> rfl
@[simp] theorem State.setAcc_cycle (c : Channel) (a : AccBank) (s : State) :
    (s.setAcc c a).cycle = s.cycle := by cases c <;> rfl
@[simp] theorem State.setAcc_aon_time (c : Channel) (a : AccBank) (s : State) :
    (s.setAcc c a).aon.time = s.aon.time := by cases c <;> rfl
@[simp] theorem State.setAcc_aon_lastVariant (c : Channel) (a : AccBank) (s : State) :
    (s.setAcc c a).aon.lastVariant = s.aon.lastVariant := by cases c <;> rfl
@[simp] theorem State.setAcc_aon_joinPending (c : Channel) (a : AccBank) (s : State) :
    (s.setAcc c a).aon.joinPending = s.aon.joinPending := by cases c <;> rfl
@[simp] theorem State.setAcc_aon_frstPend (c : Channel) (a : AccBank) (s : State) :
    (s.setAcc c a).aon.frstPend = s.aon.frstPend := by cases c <;> rfl
@[simp] theorem State.setAcc_aon_timerRun (c : Channel) (a : AccBank) (s : State) :
    (s.setAcc c a).aon.timerRun = s.aon.timerRun := by cases c <;> rfl
@[simp] theorem State.setAcc_aon_asleep (c : Channel) (a : AccBank) (s : State) :
    (s.setAcc c a).aon.asleep = s.aon.asleep := by cases c <;> rfl
@[simp] theorem State.setAcc_aon_fsmEn (c : Channel) (a : AccBank) (s : State) :
    (s.setAcc c a).aon.fsmEn = s.aon.fsmEn := by cases c <;> rfl
@[simp] theorem State.setAcc_aon_wakeCause (c : Channel) (a : AccBank) (s : State) :
    (s.setAcc c a).aon.wakeCause = s.aon.wakeCause := by cases c <;> rfl
@[simp] theorem State.setAcc_aon_wakePend (c : Channel) (a : AccBank) (s : State) :
    (s.setAcc c a).aon.wakePend = s.aon.wakePend := by cases c <;> rfl
@[simp] theorem State.setAcc_aon_wakeArm (c : Channel) (a : AccBank) (s : State) :
    (s.setAcc c a).aon.wakeArm = s.aon.wakeArm := by cases c <;> rfl
@[simp] theorem State.setAcc_aon_deadline (c : Channel) (a : AccBank) (s : State) :
    (s.setAcc c a).aon.deadline = s.aon.deadline := by cases c <;> rfl
@[simp] theorem State.setAcc_aon_btnPress (c : Channel) (a : AccBank) (s : State) :
    (s.setAcc c a).aon.btnPress = s.aon.btnPress := by cases c <;> rfl
@[simp] theorem State.setAcc_aon_combo (c : Channel) (a : AccBank) (s : State) :
    (s.setAcc c a).aon.combo = s.aon.combo := by cases c <;> rfl
@[simp] theorem State.setAcc_aon_battMv (c : Channel) (a : AccBank) (s : State) :
    (s.setAcc c a).aon.battMv = s.aon.battMv := by cases c <;> rfl
@[simp] theorem State.setAcc_aon_battPct (c : Channel) (a : AccBank) (s : State) :
    (s.setAcc c a).aon.battPct = s.aon.battPct := by cases c <;> rfl
@[simp] theorem State.setAcc_aon_battValid (c : Channel) (a : AccBank) (s : State) :
    (s.setAcc c a).aon.battValid = s.aon.battValid := by cases c <;> rfl
@[simp] theorem State.setAcc_aon_lbtValid (c : Channel) (a : AccBank) (s : State) :
    (s.setAcc c a).aon.lbtValid = s.aon.lbtValid := by cases c <;> rfl
@[simp] theorem State.setAcc_aon_lastBatt (c : Channel) (a : AccBank) (s : State) :
    (s.setAcc c a).aon.lastBatt = s.aon.lastBatt := by cases c <;> rfl
@[simp] theorem State.setAcc_aon_battAt (c : Channel) (a : AccBank) (s : State) :
    (s.setAcc c a).aon.battAt = s.aon.battAt := by cases c <;> rfl
@[simp] theorem State.setAcc_aon_bsync (c : Channel) (a : AccBank) (s : State) :
    (s.setAcc c a).aon.bsync = s.aon.bsync := by cases c <;> rfl
@[simp] theorem State.setAcc_aon_fsync (c : Channel) (a : AccBank) (s : State) :
    (s.setAcc c a).aon.fsync = s.aon.fsync := by cases c <;> rfl
@[simp] theorem State.setAcc_rain_aon_rain (a : AccBank) (s : State) : (s.setAcc .rain a).aon.rain = a := rfl
@[simp] theorem State.setAcc_rain_aon_wind (a : AccBank) (s : State) : (s.setAcc .rain a).aon.wind = s.aon.wind := rfl
@[simp] theorem State.setAcc_wind_aon_rain (a : AccBank) (s : State) : (s.setAcc .wind a).aon.rain = s.aon.rain := rfl
@[simp] theorem State.setAcc_wind_aon_wind (a : AccBank) (s : State) : (s.setAcc .wind a).aon.wind = a := rfl

/-! ## `goto` -/

@[simp] theorem goto_aon (st : PscState) (k : BitVec 5) (s : State) : (goto st k s).aon = s.aon := rfl
@[simp] theorem goto_main (st : PscState) (k : BitVec 5) (s : State) :
    (goto st k s).main = { s.main with state := st.code, substep := k } := rfl
@[simp] theorem goto_cfg (st : PscState) (k : BitVec 5) (s : State) : (goto st k s).cfg = s.cfg := rfl
@[simp] theorem goto_ds (st : PscState) (k : BitVec 5) (s : State) : (goto st k s).ds = s.ds := rfl
@[simp] theorem goto_assocValid (st : PscState) (k : BitVec 5) (s : State) : (goto st k s).assocValid = s.assocValid := rfl
@[simp] theorem goto_radioIdle (st : PscState) (k : BitVec 5) (s : State) : (goto st k s).radioIdle = s.radioIdle := rfl
@[simp] theorem goto_ans (st : PscState) (k : BitVec 5) (s : State) : (goto st k s).ans = s.ans := rfl
@[simp] theorem goto_busOut (st : PscState) (k : BitVec 5) (s : State) : (goto st k s).busOut = s.busOut := rfl
@[simp] theorem goto_rsp (st : PscState) (k : BitVec 5) (s : State) : (goto st k s).rsp = s.rsp := rfl
@[simp] theorem goto_trace (st : PscState) (k : BitVec 5) (s : State) : (goto st k s).trace = s.trace := rfl
@[simp] theorem goto_cycEn (st : PscState) (k : BitVec 5) (s : State) : (goto st k s).cycEn = s.cycEn := rfl
@[simp] theorem goto_agenda (st : PscState) (k : BitVec 5) (s : State) : (goto st k s).agenda = s.agenda := rfl
@[simp] theorem goto_inq (st : PscState) (k : BitVec 5) (s : State) : (goto st k s).inq = s.inq := rfl
@[simp] theorem goto_cycle (st : PscState) (k : BitVec 5) (s : State) : (goto st k s).cycle = s.cycle := rfl

/-! ## `emit` -/

@[simp] theorem emit_aon (k : ReqKind) (a b : Byte) (p : List Byte) (s : State) : (emit k a b p s).aon = s.aon := rfl
@[simp] theorem emit_main (k : ReqKind) (a b : Byte) (p : List Byte) (s : State) : (emit k a b p s).main = s.main := rfl
@[simp] theorem emit_cfg (k : ReqKind) (a b : Byte) (p : List Byte) (s : State) : (emit k a b p s).cfg = s.cfg := rfl
@[simp] theorem emit_ds (k : ReqKind) (a b : Byte) (p : List Byte) (s : State) : (emit k a b p s).ds = s.ds := rfl
@[simp] theorem emit_assocValid (k : ReqKind) (a b : Byte) (p : List Byte) (s : State) :
    (emit k a b p s).assocValid = s.assocValid := rfl
@[simp] theorem emit_radioIdle (k : ReqKind) (a b : Byte) (p : List Byte) (s : State) :
    (emit k a b p s).radioIdle = s.radioIdle := rfl
@[simp] theorem emit_ans (k : ReqKind) (a b : Byte) (p : List Byte) (s : State) : (emit k a b p s).ans = s.ans := rfl
@[simp] theorem emit_busOut (k : ReqKind) (a b : Byte) (p : List Byte) (s : State) : (emit k a b p s).busOut = s.busOut := rfl
@[simp] theorem emit_rsp (k : ReqKind) (a b : Byte) (p : List Byte) (s : State) : (emit k a b p s).rsp = s.rsp := rfl
@[simp] theorem emit_trace (k : ReqKind) (a b : Byte) (p : List Byte) (s : State) :
    (emit k a b p s).trace = s.trace ++ [⟨requestHeader k a b, p⟩] := rfl
@[simp] theorem emit_cycEn (k : ReqKind) (a b : Byte) (p : List Byte) (s : State) : (emit k a b p s).cycEn = s.cycEn := rfl
@[simp] theorem emit_agenda (k : ReqKind) (a b : Byte) (p : List Byte) (s : State) : (emit k a b p s).agenda = s.agenda := rfl
@[simp] theorem emit_inq (k : ReqKind) (a b : Byte) (p : List Byte) (s : State) : (emit k a b p s).inq = s.inq := rfl
@[simp] theorem emit_cycle (k : ReqKind) (a b : Byte) (p : List Byte) (s : State) : (emit k a b p s).cycle = s.cycle := rfl

/-! ## `report` -/

@[simp] theorem report_aon (ch : Byte) (v : DWord) (s : State) : (report ch v s).aon = s.aon := rfl
@[simp] theorem report_main (ch : Byte) (v : DWord) (s : State) : (report ch v s).main = s.main := rfl
@[simp] theorem report_cfg (ch : Byte) (v : DWord) (s : State) : (report ch v s).cfg = s.cfg := rfl
@[simp] theorem report_ds (ch : Byte) (v : DWord) (s : State) : (report ch v s).ds = s.ds := rfl
@[simp] theorem report_assocValid (ch : Byte) (v : DWord) (s : State) : (report ch v s).assocValid = s.assocValid := rfl
@[simp] theorem report_radioIdle (ch : Byte) (v : DWord) (s : State) : (report ch v s).radioIdle = s.radioIdle := rfl
@[simp] theorem report_ans (ch : Byte) (v : DWord) (s : State) : (report ch v s).ans = s.ans := rfl
@[simp] theorem report_busOut (ch : Byte) (v : DWord) (s : State) : (report ch v s).busOut = s.busOut := rfl
@[simp] theorem report_rsp (ch : Byte) (v : DWord) (s : State) : (report ch v s).rsp = s.rsp := rfl
@[simp] theorem report_trace (ch : Byte) (v : DWord) (s : State) :
    (report ch v s).trace = s.trace ++ [⟨requestHeader .report ch 0, le64 v⟩] := rfl
@[simp] theorem report_cycEn (ch : Byte) (v : DWord) (s : State) : (report ch v s).cycEn = s.cycEn := rfl
@[simp] theorem report_agenda (ch : Byte) (v : DWord) (s : State) : (report ch v s).agenda = s.agenda := rfl
@[simp] theorem report_inq (ch : Byte) (v : DWord) (s : State) : (report ch v s).inq = s.inq := rfl
@[simp] theorem report_cycle (ch : Byte) (v : DWord) (s : State) : (report ch v s).cycle = s.cycle := rfl

/-! ## `setTry` -/

@[simp] theorem setTry_aon (n : Byte) (s : State) : (setTry n s).aon = s.aon := rfl
@[simp] theorem setTry_main (n : Byte) (s : State) : (setTry n s).main = { s.main with tryCount := n } := rfl
@[simp] theorem setTry_cfg (n : Byte) (s : State) : (setTry n s).cfg = s.cfg := rfl
@[simp] theorem setTry_ds (n : Byte) (s : State) : (setTry n s).ds = s.ds := rfl
@[simp] theorem setTry_assocValid (n : Byte) (s : State) : (setTry n s).assocValid = s.assocValid := rfl
@[simp] theorem setTry_radioIdle (n : Byte) (s : State) : (setTry n s).radioIdle = s.radioIdle := rfl
@[simp] theorem setTry_ans (n : Byte) (s : State) : (setTry n s).ans = s.ans := rfl
@[simp] theorem setTry_busOut (n : Byte) (s : State) : (setTry n s).busOut = s.busOut := rfl
@[simp] theorem setTry_rsp (n : Byte) (s : State) : (setTry n s).rsp = s.rsp := rfl
@[simp] theorem setTry_trace (n : Byte) (s : State) : (setTry n s).trace = s.trace := rfl
@[simp] theorem setTry_cycEn (n : Byte) (s : State) : (setTry n s).cycEn = s.cycEn := rfl
@[simp] theorem setTry_agenda (n : Byte) (s : State) : (setTry n s).agenda = s.agenda := rfl
@[simp] theorem setTry_inq (n : Byte) (s : State) : (setTry n s).inq = s.inq := rfl
@[simp] theorem setTry_cycle (n : Byte) (s : State) : (setTry n s).cycle = s.cycle := rfl

/-! ## `setCombo` -/

@[simp] theorem setCombo_aon (k : BitVec 3) (s : State) : (setCombo k s).aon = { s.aon with combo := comboOf k } := rfl
@[simp] theorem setCombo_main (k : BitVec 3) (s : State) : (setCombo k s).main = s.main := rfl
@[simp] theorem setCombo_cfg (k : BitVec 3) (s : State) : (setCombo k s).cfg = s.cfg := rfl
@[simp] theorem setCombo_ds (k : BitVec 3) (s : State) : (setCombo k s).ds = s.ds := rfl
@[simp] theorem setCombo_assocValid (k : BitVec 3) (s : State) : (setCombo k s).assocValid = s.assocValid := rfl
@[simp] theorem setCombo_radioIdle (k : BitVec 3) (s : State) : (setCombo k s).radioIdle = s.radioIdle := rfl
@[simp] theorem setCombo_ans (k : BitVec 3) (s : State) : (setCombo k s).ans = s.ans := rfl
@[simp] theorem setCombo_busOut (k : BitVec 3) (s : State) : (setCombo k s).busOut = s.busOut := rfl
@[simp] theorem setCombo_rsp (k : BitVec 3) (s : State) : (setCombo k s).rsp = s.rsp := rfl
@[simp] theorem setCombo_trace (k : BitVec 3) (s : State) : (setCombo k s).trace = s.trace := rfl
@[simp] theorem setCombo_cycEn (k : BitVec 3) (s : State) : (setCombo k s).cycEn = s.cycEn := rfl
@[simp] theorem setCombo_agenda (k : BitVec 3) (s : State) : (setCombo k s).agenda = s.agenda := rfl
@[simp] theorem setCombo_inq (k : BitVec 3) (s : State) : (setCombo k s).inq = s.inq := rfl
@[simp] theorem setCombo_cycle (k : BitVec 3) (s : State) : (setCombo k s).cycle = s.cycle := rfl

/-! ## `setSval` -/

@[simp] theorem setSval_aon (q : Quantity) (v : DWord) (s : State) : (setSval q v s).aon = s.aon := by cases q <;> rfl
@[simp] theorem setSval_cfg (q : Quantity) (v : DWord) (s : State) : (setSval q v s).cfg = s.cfg := by cases q <;> rfl
@[simp] theorem setSval_ds (q : Quantity) (v : DWord) (s : State) : (setSval q v s).ds = s.ds := by cases q <;> rfl
@[simp] theorem setSval_assocValid (q : Quantity) (v : DWord) (s : State) :
    (setSval q v s).assocValid = s.assocValid := by cases q <;> rfl
@[simp] theorem setSval_radioIdle (q : Quantity) (v : DWord) (s : State) :
    (setSval q v s).radioIdle = s.radioIdle := by cases q <;> rfl
@[simp] theorem setSval_ans (q : Quantity) (v : DWord) (s : State) : (setSval q v s).ans = s.ans := by cases q <;> rfl
@[simp] theorem setSval_busOut (q : Quantity) (v : DWord) (s : State) : (setSval q v s).busOut = s.busOut := by cases q <;> rfl
@[simp] theorem setSval_rsp (q : Quantity) (v : DWord) (s : State) : (setSval q v s).rsp = s.rsp := by cases q <;> rfl
@[simp] theorem setSval_trace (q : Quantity) (v : DWord) (s : State) : (setSval q v s).trace = s.trace := by cases q <;> rfl
@[simp] theorem setSval_cycEn (q : Quantity) (v : DWord) (s : State) : (setSval q v s).cycEn = s.cycEn := by cases q <;> rfl
@[simp] theorem setSval_agenda (q : Quantity) (v : DWord) (s : State) : (setSval q v s).agenda = s.agenda := by cases q <;> rfl
@[simp] theorem setSval_inq (q : Quantity) (v : DWord) (s : State) : (setSval q v s).inq = s.inq := by cases q <;> rfl
@[simp] theorem setSval_cycle (q : Quantity) (v : DWord) (s : State) : (setSval q v s).cycle = s.cycle := by cases q <;> rfl
@[simp] theorem setSval_main_argLo (q : Quantity) (v : DWord) (s : State) :
    (setSval q v s).main.argLo = s.main.argLo := by cases q <;> rfl
@[simp] theorem setSval_main_argHi (q : Quantity) (v : DWord) (s : State) :
    (setSval q v s).main.argHi = s.main.argHi := by cases q <;> rfl
@[simp] theorem setSval_main_cmdErr (q : Quantity) (v : DWord) (s : State) :
    (setSval q v s).main.cmdErr = s.main.cmdErr := by cases q <;> rfl
@[simp] theorem setSval_main_cmdErrCode (q : Quantity) (v : DWord) (s : State) :
    (setSval q v s).main.cmdErrCode = s.main.cmdErrCode := by cases q <;> rfl
@[simp] theorem setSval_main_lastOpc (q : Quantity) (v : DWord) (s : State) :
    (setSval q v s).main.lastOpc = s.main.lastOpc := by cases q <;> rfl
@[simp] theorem setSval_main_cmdCount (q : Quantity) (v : DWord) (s : State) :
    (setSval q v s).main.cmdCount = s.main.cmdCount := by cases q <;> rfl
@[simp] theorem setSval_main_res (q : Quantity) (v : DWord) (s : State) :
    (setSval q v s).main.res = s.main.res := by cases q <;> rfl
@[simp] theorem setSval_main_state (q : Quantity) (v : DWord) (s : State) :
    (setSval q v s).main.state = s.main.state := by cases q <;> rfl
@[simp] theorem setSval_main_substep (q : Quantity) (v : DWord) (s : State) :
    (setSval q v s).main.substep = s.main.substep := by cases q <;> rfl
@[simp] theorem setSval_main_longSleep (q : Quantity) (v : DWord) (s : State) :
    (setSval q v s).main.longSleep = s.main.longSleep := by cases q <;> rfl
@[simp] theorem setSval_main_fullPath (q : Quantity) (v : DWord) (s : State) :
    (setSval q v s).main.fullPath = s.main.fullPath := by cases q <;> rfl
@[simp] theorem setSval_main_assocStored (q : Quantity) (v : DWord) (s : State) :
    (setSval q v s).main.assocStored = s.main.assocStored := by cases q <;> rfl
@[simp] theorem setSval_main_tryCount (q : Quantity) (v : DWord) (s : State) :
    (setSval q v s).main.tryCount = s.main.tryCount := by cases q <;> rfl
@[simp] theorem setSval_main_joinTry (q : Quantity) (v : DWord) (s : State) :
    (setSval q v s).main.joinTry = s.main.joinTry := by cases q <;> rfl
@[simp] theorem setSval_main_planArm (q : Quantity) (v : DWord) (s : State) :
    (setSval q v s).main.planArm = s.main.planArm := by cases q <;> rfl
@[simp] theorem setSval_main_planRetain (q : Quantity) (v : DWord) (s : State) :
    (setSval q v s).main.planRetain = s.main.planRetain := by cases q <;> rfl
@[simp] theorem setSval_main_sleepDur (q : Quantity) (v : DWord) (s : State) :
    (setSval q v s).main.sleepDur = s.main.sleepDur := by cases q <;> rfl
@[simp] theorem setSval_main_sessionStart (q : Quantity) (v : DWord) (s : State) :
    (setSval q v s).main.sessionStart = s.main.sessionStart := by cases q <;> rfl
@[simp] theorem setSval_main_waitUntil (q : Quantity) (v : DWord) (s : State) :
    (setSval q v s).main.waitUntil = s.main.waitUntil := by cases q <;> rfl
@[simp] theorem setSval_main_battNew (q : Quantity) (v : DWord) (s : State) :
    (setSval q v s).main.battNew = s.main.battNew := by cases q <;> rfl
@[simp] theorem setSval_main_shadow (q : Quantity) (v : DWord) (s : State) :
    (setSval q v s).main.shadow = s.main.shadow := by cases q <;> rfl

/-! ## `dispatchWake` -/

@[simp] theorem dispatchWake_aon (k : WakeSrc) (s : State) :
    (dispatchWake k s).aon = { s.aon with wakeCause := k.code, wakePend := clearLatch k s.aon.wakePend } := rfl
@[simp] theorem dispatchWake_main (k : WakeSrc) (s : State) : (dispatchWake k s).main = s.main := rfl
@[simp] theorem dispatchWake_cfg (k : WakeSrc) (s : State) : (dispatchWake k s).cfg = s.cfg := rfl
@[simp] theorem dispatchWake_ds (k : WakeSrc) (s : State) : (dispatchWake k s).ds = s.ds := rfl
@[simp] theorem dispatchWake_assocValid (k : WakeSrc) (s : State) : (dispatchWake k s).assocValid = s.assocValid := rfl
@[simp] theorem dispatchWake_radioIdle (k : WakeSrc) (s : State) : (dispatchWake k s).radioIdle = s.radioIdle := rfl
@[simp] theorem dispatchWake_ans (k : WakeSrc) (s : State) : (dispatchWake k s).ans = s.ans := rfl
@[simp] theorem dispatchWake_busOut (k : WakeSrc) (s : State) : (dispatchWake k s).busOut = s.busOut := rfl
@[simp] theorem dispatchWake_rsp (k : WakeSrc) (s : State) : (dispatchWake k s).rsp = s.rsp := rfl
@[simp] theorem dispatchWake_trace (k : WakeSrc) (s : State) : (dispatchWake k s).trace = s.trace := rfl
@[simp] theorem dispatchWake_cycEn (k : WakeSrc) (s : State) : (dispatchWake k s).cycEn = s.cycEn := rfl
@[simp] theorem dispatchWake_agenda (k : WakeSrc) (s : State) : (dispatchWake k s).agenda = s.agenda := rfl
@[simp] theorem dispatchWake_inq (k : WakeSrc) (s : State) : (dispatchWake k s).inq = s.inq := rfl
@[simp] theorem dispatchWake_cycle (k : WakeSrc) (s : State) : (dispatchWake k s).cycle = s.cycle := rfl

/-! ## Resets and errors -/

@[simp] theorem warmReset_aon (s : State) : (warmReset s).aon = s.aon := rfl
@[simp] theorem warmReset_main (s : State) : (warmReset s).main = Main.cold := rfl
@[simp] theorem warmReset_cfg (s : State) : (warmReset s).cfg = s.cfg := rfl
@[simp] theorem warmReset_ds (s : State) : (warmReset s).ds = s.ds := rfl
@[simp] theorem warmReset_assocValid (s : State) : (warmReset s).assocValid = s.assocValid := rfl
@[simp] theorem warmReset_radioIdle (s : State) : (warmReset s).radioIdle = s.radioIdle := rfl
@[simp] theorem warmReset_ans (s : State) : (warmReset s).ans = s.ans := rfl
@[simp] theorem warmReset_busOut (s : State) : (warmReset s).busOut = s.busOut := rfl
@[simp] theorem warmReset_rsp (s : State) : (warmReset s).rsp = s.rsp := rfl
@[simp] theorem warmReset_trace (s : State) : (warmReset s).trace = s.trace := rfl
@[simp] theorem warmReset_cycEn (s : State) : (warmReset s).cycEn = s.cycEn := rfl
@[simp] theorem warmReset_agenda (s : State) : (warmReset s).agenda = s.agenda := rfl
@[simp] theorem warmReset_inq (s : State) : (warmReset s).inq = s.inq := rfl
@[simp] theorem warmReset_cycle (s : State) : (warmReset s).cycle = s.cycle := rfl
@[simp] theorem porReset_aon (s : State) : (porReset s).aon = Aon.cold := rfl
@[simp] theorem porReset_main (s : State) : (porReset s).main = Main.cold := rfl
@[simp] theorem porReset_cfg (s : State) : (porReset s).cfg = s.cfg := rfl
@[simp] theorem porReset_ds (s : State) : (porReset s).ds = s.ds := rfl
@[simp] theorem porReset_assocValid (s : State) : (porReset s).assocValid = s.assocValid := rfl
@[simp] theorem porReset_radioIdle (s : State) : (porReset s).radioIdle = s.radioIdle := rfl
@[simp] theorem porReset_ans (s : State) : (porReset s).ans = s.ans := rfl
@[simp] theorem porReset_busOut (s : State) : (porReset s).busOut = s.busOut := rfl
@[simp] theorem porReset_rsp (s : State) : (porReset s).rsp = s.rsp := rfl
@[simp] theorem porReset_trace (s : State) : (porReset s).trace = s.trace := rfl
@[simp] theorem porReset_cycEn (s : State) : (porReset s).cycEn = s.cycEn := rfl
@[simp] theorem porReset_agenda (s : State) : (porReset s).agenda = [] := rfl
@[simp] theorem porReset_inq (s : State) : (porReset s).inq = s.inq := rfl
@[simp] theorem porReset_cycle (s : State) : (porReset s).cycle = s.cycle := rfl
@[simp] theorem takeCmdError_aon (e : CmdErr) (s : State) : (takeCmdError e s).aon = s.aon := rfl
@[simp] theorem takeCmdError_main (e : CmdErr) (s : State) :
    (takeCmdError e s).main = { s.main with cmdErr := true, cmdErrCode := e.code } := rfl
@[simp] theorem takeCmdError_cfg (e : CmdErr) (s : State) : (takeCmdError e s).cfg = s.cfg := rfl
@[simp] theorem takeCmdError_ds (e : CmdErr) (s : State) : (takeCmdError e s).ds = s.ds := rfl
@[simp] theorem takeCmdError_assocValid (e : CmdErr) (s : State) : (takeCmdError e s).assocValid = s.assocValid := rfl
@[simp] theorem takeCmdError_radioIdle (e : CmdErr) (s : State) : (takeCmdError e s).radioIdle = s.radioIdle := rfl
@[simp] theorem takeCmdError_ans (e : CmdErr) (s : State) : (takeCmdError e s).ans = s.ans := rfl
@[simp] theorem takeCmdError_busOut (e : CmdErr) (s : State) : (takeCmdError e s).busOut = s.busOut := rfl
@[simp] theorem takeCmdError_rsp (e : CmdErr) (s : State) : (takeCmdError e s).rsp = s.rsp := rfl
@[simp] theorem takeCmdError_trace (e : CmdErr) (s : State) : (takeCmdError e s).trace = s.trace := rfl
@[simp] theorem takeCmdError_cycEn (e : CmdErr) (s : State) : (takeCmdError e s).cycEn = s.cycEn := rfl
@[simp] theorem takeCmdError_agenda (e : CmdErr) (s : State) : (takeCmdError e s).agenda = s.agenda := rfl
@[simp] theorem takeCmdError_inq (e : CmdErr) (s : State) : (takeCmdError e s).inq = s.inq := rfl
@[simp] theorem takeCmdError_cycle (e : CmdErr) (s : State) : (takeCmdError e s).cycle = s.cycle := rfl
@[simp] theorem takeBusError_aon (a : BitVec 12) (s : State) : (takeBusError a s).aon = s.aon := rfl
@[simp] theorem takeBusError_main (a : BitVec 12) (s : State) : (takeBusError a s).main = s.main := rfl
@[simp] theorem takeBusError_cfg (a : BitVec 12) (s : State) : (takeBusError a s).cfg = s.cfg := rfl
@[simp] theorem takeBusError_ds (a : BitVec 12) (s : State) : (takeBusError a s).ds = s.ds := rfl
@[simp] theorem takeBusError_assocValid (a : BitVec 12) (s : State) : (takeBusError a s).assocValid = s.assocValid := rfl
@[simp] theorem takeBusError_radioIdle (a : BitVec 12) (s : State) : (takeBusError a s).radioIdle = s.radioIdle := rfl
@[simp] theorem takeBusError_ans (a : BitVec 12) (s : State) : (takeBusError a s).ans = s.ans := rfl
@[simp] theorem takeBusError_busOut (a : BitVec 12) (s : State) : (takeBusError a s).busOut = .err a := rfl
@[simp] theorem takeBusError_rsp (a : BitVec 12) (s : State) : (takeBusError a s).rsp = s.rsp := rfl
@[simp] theorem takeBusError_trace (a : BitVec 12) (s : State) : (takeBusError a s).trace = s.trace := rfl
@[simp] theorem takeBusError_cycEn (a : BitVec 12) (s : State) : (takeBusError a s).cycEn = s.cycEn := rfl
@[simp] theorem takeBusError_agenda (a : BitVec 12) (s : State) : (takeBusError a s).agenda = s.agenda := rfl
@[simp] theorem takeBusError_inq (a : BitVec 12) (s : State) : (takeBusError a s).inq = s.inq := rfl
@[simp] theorem takeBusError_cycle (a : BitVec 12) (s : State) : (takeBusError a s).cycle = s.cycle := rfl

/-! ## Commands -/

@[simp] theorem acceptCommand_aon (opc : Byte) (r : Results) (s : State) : (acceptCommand opc r s).aon = s.aon := rfl
@[simp] theorem acceptCommand_main (opc : Byte) (r : Results) (s : State) :
    (acceptCommand opc r s).main = { s.main with lastOpc := opc, cmdCount := s.main.cmdCount + 1, res := r } := rfl
@[simp] theorem acceptCommand_cfg (opc : Byte) (r : Results) (s : State) : (acceptCommand opc r s).cfg = s.cfg := rfl
@[simp] theorem acceptCommand_ds (opc : Byte) (r : Results) (s : State) : (acceptCommand opc r s).ds = s.ds := rfl
@[simp] theorem acceptCommand_assocValid (opc : Byte) (r : Results) (s : State) :
    (acceptCommand opc r s).assocValid = s.assocValid := rfl
@[simp] theorem acceptCommand_radioIdle (opc : Byte) (r : Results) (s : State) :
    (acceptCommand opc r s).radioIdle = s.radioIdle := rfl
@[simp] theorem acceptCommand_ans (opc : Byte) (r : Results) (s : State) : (acceptCommand opc r s).ans = s.ans := rfl
@[simp] theorem acceptCommand_busOut (opc : Byte) (r : Results) (s : State) : (acceptCommand opc r s).busOut = s.busOut := rfl
@[simp] theorem acceptCommand_rsp (opc : Byte) (r : Results) (s : State) : (acceptCommand opc r s).rsp = s.rsp := rfl
@[simp] theorem acceptCommand_trace (opc : Byte) (r : Results) (s : State) : (acceptCommand opc r s).trace = s.trace := rfl
@[simp] theorem acceptCommand_cycEn (opc : Byte) (r : Results) (s : State) : (acceptCommand opc r s).cycEn = s.cycEn := rfl
@[simp] theorem acceptCommand_agenda (opc : Byte) (r : Results) (s : State) : (acceptCommand opc r s).agenda = s.agenda := rfl
@[simp] theorem acceptCommand_inq (opc : Byte) (r : Results) (s : State) : (acceptCommand opc r s).inq = s.inq := rfl
@[simp] theorem acceptCommand_cycle (opc : Byte) (r : Results) (s : State) : (acceptCommand opc r s).cycle = s.cycle := rfl

/-! ## Time and levels -/

@[simp] theorem advanceTime_aon (s : State) : (advanceTime s).aon = { s.aon with time := s.aon.time + 1 } := rfl
@[simp] theorem advanceTime_main (s : State) : (advanceTime s).main = s.main := rfl
@[simp] theorem advanceTime_cfg (s : State) : (advanceTime s).cfg = s.cfg := rfl
@[simp] theorem advanceTime_ds (s : State) : (advanceTime s).ds = s.ds := rfl
@[simp] theorem advanceTime_assocValid (s : State) : (advanceTime s).assocValid = s.assocValid := rfl
@[simp] theorem advanceTime_radioIdle (s : State) : (advanceTime s).radioIdle = s.radioIdle := rfl
@[simp] theorem advanceTime_ans (s : State) : (advanceTime s).ans = s.ans := rfl
@[simp] theorem advanceTime_busOut (s : State) : (advanceTime s).busOut = s.busOut := rfl
@[simp] theorem advanceTime_rsp (s : State) : (advanceTime s).rsp = s.rsp := rfl
@[simp] theorem advanceTime_trace (s : State) : (advanceTime s).trace = s.trace := rfl
@[simp] theorem advanceTime_cycEn (s : State) : (advanceTime s).cycEn = s.cycEn := rfl
@[simp] theorem advanceTime_agenda (s : State) : (advanceTime s).agenda = s.agenda := rfl
@[simp] theorem advanceTime_inq (s : State) : (advanceTime s).inq = s.inq := rfl
@[simp] theorem advanceTime_cycle (s : State) : (advanceTime s).cycle = s.cycle := rfl

/-! ## `latchShadow` -/

@[simp] theorem latchShadow_aon (r : Reg) (s : State) : (latchShadow r s).aon = s.aon := by cases r <;> rfl
@[simp] theorem latchShadow_cfg (r : Reg) (s : State) : (latchShadow r s).cfg = s.cfg := by cases r <;> rfl
@[simp] theorem latchShadow_ds (r : Reg) (s : State) : (latchShadow r s).ds = s.ds := by cases r <;> rfl
@[simp] theorem latchShadow_assocValid (r : Reg) (s : State) : (latchShadow r s).assocValid = s.assocValid := by cases r <;> rfl
@[simp] theorem latchShadow_radioIdle (r : Reg) (s : State) : (latchShadow r s).radioIdle = s.radioIdle := by cases r <;> rfl
@[simp] theorem latchShadow_ans (r : Reg) (s : State) : (latchShadow r s).ans = s.ans := by cases r <;> rfl
@[simp] theorem latchShadow_busOut (r : Reg) (s : State) : (latchShadow r s).busOut = s.busOut := by cases r <;> rfl
@[simp] theorem latchShadow_rsp (r : Reg) (s : State) : (latchShadow r s).rsp = s.rsp := by cases r <;> rfl
@[simp] theorem latchShadow_trace (r : Reg) (s : State) : (latchShadow r s).trace = s.trace := by cases r <;> rfl
@[simp] theorem latchShadow_cycEn (r : Reg) (s : State) : (latchShadow r s).cycEn = s.cycEn := by cases r <;> rfl
@[simp] theorem latchShadow_agenda (r : Reg) (s : State) : (latchShadow r s).agenda = s.agenda := by cases r <;> rfl
@[simp] theorem latchShadow_inq (r : Reg) (s : State) : (latchShadow r s).inq = s.inq := by cases r <;> rfl
@[simp] theorem latchShadow_cycle (r : Reg) (s : State) : (latchShadow r s).cycle = s.cycle := by cases r <;> rfl

/-! ## `openCycle` -/

@[simp] theorem openCycle_aon (s : State) : (openCycle s).aon = s.aon := rfl
@[simp] theorem openCycle_main (s : State) : (openCycle s).main = s.main := rfl
@[simp] theorem openCycle_cfg (s : State) : (openCycle s).cfg = s.cfg := rfl
@[simp] theorem openCycle_ds (s : State) : (openCycle s).ds = s.ds := rfl
@[simp] theorem openCycle_assocValid (s : State) : (openCycle s).assocValid = s.assocValid := rfl
@[simp] theorem openCycle_radioIdle (s : State) : (openCycle s).radioIdle = s.radioIdle := rfl
@[simp] theorem openCycle_ans (s : State) : (openCycle s).ans = (nextInputs s).ans := rfl
@[simp] theorem openCycle_busOut (s : State) : (openCycle s).busOut = .none := rfl
@[simp] theorem openCycle_rsp (s : State) : (openCycle s).rsp = none := rfl
@[simp] theorem openCycle_trace (s : State) : (openCycle s).trace = s.trace := rfl
@[simp] theorem openCycle_cycEn (s : State) : (openCycle s).cycEn = s.aon.fsmEn := rfl
@[simp] theorem openCycle_agenda (s : State) : (openCycle s).agenda = cycleAgenda s.aon.fsmEn (nextInputs s) := rfl
@[simp] theorem openCycle_inq (s : State) : (openCycle s).inq = s.inq.tail := rfl
@[simp] theorem openCycle_cycle (s : State) : (openCycle s).cycle = s.cycle + 1 := rfl

end Sys2Proof.Machine
end

