-- ==== Sys2Proof/Laws/Store.lean ====
section
/-! SUPPORT. The durable store (20_memory.md R72, R85): a read after a write, and the canonical form that every write keeps. -/

namespace Sys2Proof.Machine

@[simp] theorem Store.get_nil (k : Nat) : Store.get k [] = none := rfl

/-- R85: a key that was written reads as what was written. -/
@[simp] theorem Store.get_set_same (k : Nat) (v : List Byte) (m : Store) : Store.get k (Store.set k v m) = some v := by
  induction m with
  | nil => simp [Store.set, Store.get]
  | cons e rest ih =>
    obtain ⟨j, w⟩ := e
    unfold Store.set
    split
    · simp [Store.get]
    · split
      · simp [Store.get]
      · rename_i h1 h2
        have : ¬ j = k := by omega
        simp [Store.get, this, ih]

/-- R85: every other key reads as before. -/
theorem Store.get_set_other {k j : Nat} (h : j ≠ k) (v : List Byte) (m : Store) :
    Store.get j (Store.set k v m) = Store.get j m := by
  have hk : ¬ k = j := fun e => h e.symm
  induction m with
  | nil => simp [Store.set, Store.get, hk]
  | cons e rest ih =>
    obtain ⟨i, w⟩ := e
    unfold Store.set
    split
    · simp [Store.get, hk]
    · split
      · rename_i h1 h2
        subst h2
        simp [Store.get, hk]
      · simp only [Store.get]
        split
        · rfl
        · exact ih

theorem Store.wfFrom_mono {a b : Nat} (h : a ≤ b) {m : Store} (hm : Store.wfFrom b m = true) : Store.wfFrom a m = true := by
  cases m with
  | nil => rfl
  | cons e rest =>
    obtain ⟨j, w⟩ := e
    simp only [Store.wfFrom, Bool.and_eq_true, decide_eq_true_eq] at hm ⊢
    exact ⟨⟨⟨by omega, hm.1.1.2⟩, hm.1.2⟩, hm.2⟩

theorem Store.wfFrom_set {b k : Nat} {v : List Byte} {m : Store} (hb : b ≤ k) (hk : k < 256) (hv : v.length ≤ 255)
    (hm : Store.wfFrom b m = true) : Store.wfFrom b (Store.set k v m) = true := by
  induction m generalizing b with
  | nil => simp [Store.set, Store.wfFrom, hb, hk, hv]
  | cons e rest ih =>
    obtain ⟨j, w⟩ := e
    simp only [Store.wfFrom, Bool.and_eq_true, decide_eq_true_eq] at hm
    unfold Store.set
    split
    · rename_i h1
      simp only [Store.wfFrom, Bool.and_eq_true, decide_eq_true_eq]
      exact ⟨⟨⟨hb, hk⟩, hv⟩, ⟨⟨by omega, hm.1.1.2⟩, hm.1.2⟩, hm.2⟩
    · split
      · rename_i h1 h2
        subst h2
        simp only [Store.wfFrom, Bool.and_eq_true, decide_eq_true_eq]
        exact ⟨⟨⟨hb, hk⟩, hv⟩, hm.2⟩
      · simp only [Store.wfFrom, Bool.and_eq_true, decide_eq_true_eq]
        exact ⟨hm.1, ih (by omega) hm.2⟩

/-- R72: a write of a byte string of at most 255 bytes keeps the canonical form. -/
theorem Store.wf_set {m : Store} (a : Byte) {v : List Byte} (hv : v.length ≤ 255) (hm : Store.wf m = true) :
    Store.wf (Store.set a.toNat v m) = true := Store.wfFrom_set (Nat.zero_le _) a.isLt hv hm

/-- R340: the store after reset is in its canonical form. -/
theorem Store.wf_reset : Store.wf State.reset.ds = true := rfl

end Sys2Proof.Machine
end

