-- ==== Sys2Proof/Laws/Ops.lean ====
section
/-! SUPPORT. What each shared operation can do, said once: the request port, the accumulator, the retries, the durable writes, the bus
target, the step. A proof about an instruction cites these and unfolds nothing below the meaning. -/

namespace Sys2Proof.Machine

/-! ## The request port (R260) -/

/-- R260: with no answer there is no transaction. -/
@[simp] theorem transact_unanswered {s : State} (h : s.ans.ready = false) (k : ReqKind) (a b : Byte) (p : List Byte) :
    transact k a b p s = none := by simp [transact, h]

/-- R260: all a transaction does when it is answered. -/
theorem transact_answered {s : State} (h : s.ans.ready = true) (k : ReqKind) (a b : Byte) (p : List Byte) :
    transact k a b p s = some (responseTo k a s, { s with
      trace := s.trace ++ [⟨requestHeader k a b, p⟩]
      ds := storeEffect k a p (responseTo k a s) s.ds
      rsp := some (responseTo k a s) }) := by simp [transact, h, emit]

/-- R260: a transaction that completes was answered, and this is what it did. -/
theorem transact_eq_some {s t : State} {k : ReqKind} {a b : Byte} {p : List Byte} {r : Response}
    (h : transact k a b p s = some (r, t)) :
    s.ans.ready = true ∧ r = responseTo k a s ∧ t = { s with
      trace := s.trace ++ [⟨requestHeader k a b, p⟩]
      ds := storeEffect k a p r s.ds
      rsp := some r } := by
  by_cases hr : s.ans.ready = true
  · rw [transact_answered hr] at h
    simp only [Option.some.injEq, Prod.mk.injEq] at h
    obtain ⟨rfl, rfl⟩ := h
    exact ⟨hr, rfl, rfl⟩
  · simp [transact, hr] at h

/-- R85, R264: only a `STORE_SET` that is answered `OK` changes the store. -/
theorem storeEffect_of_ne {k : ReqKind} (h : k ≠ .storeSet) (a : Byte) (p : List Byte) (r : Response) (m : Store) :
    storeEffect k a p r m = m := by simp [storeEffect, h]

theorem storeEffect_ok {r : Response} (h : r.status = 0) (a : Byte) (p : List Byte) (m : Store) :
    storeEffect .storeSet a p r m = Store.set a.toNat p m := by simp [storeEffect, statusOk, h]

theorem storeEffect_err {r : Response} (h : r.status ≠ 0) (k : ReqKind) (a : Byte) (p : List Byte) (m : Store) :
    storeEffect k a p r m = m := by simp only [storeEffect, statusOk, beq_iff_eq, h, and_false, if_false]

/-- R72: a request keeps the store's canonical form. -/
theorem storeEffect_wf {m : Store} (hm : Store.wf m = true) (k : ReqKind) (a : Byte) {p : List Byte} (hp : p.length ≤ 255)
    (r : Response) : Store.wf (storeEffect k a p r m) = true := by
  unfold storeEffect
  split
  · exact Store.wf_set a hp hm
  · exact hm

/-- A stand-alone transaction either completes or waits. -/
theorem transaction_cases (k : ReqKind) (a b : Byte) (p : List Byte) (s : State) :
    (s.ans.ready = false ∧ transact k a b p s = none) ∨
      (s.ans.ready = true ∧ ∃ r t, transact k a b p s = some (r, t)) := by
  cases h : s.ans.ready
  · exact .inl ⟨rfl, transact_unanswered h ..⟩
  · exact .inr ⟨rfl, _, _, transact_answered h ..⟩

/-! ## Byte order (R77, R87, R88) -/

@[simp] theorem wordBytes_length (w : Word) : (wordBytes w).length = 4 := rfl
@[simp] theorem le64_length (v : DWord) : (le64 v).length = 8 := rfl

/-- R77: the bytes of a word make the word again. -/
theorem wordOfBytes_wordBytes (w : Word) :
    wordOfBytes (w.extractLsb' 0 8) (w.extractLsb' 8 8) (w.extractLsb' 16 8) (w.extractLsb' 24 8) = w := by
  apply BitVec.eq_of_getLsbD_eq
  intro i hi
  simp only [wordOfBytes, BitVec.getLsbD_append, BitVec.getLsbD_extractLsb']
  by_cases h1 : i < 8
  · simp [h1]
  · by_cases h2 : i < 16
    · simp [h1, show i - 8 < 8 by omega, show 8 + (i - 8) = i by omega]
    · by_cases h3 : i < 24
      · simp [h1, show ¬ i - 8 < 8 by omega, show i - 8 - 8 < 8 by omega, show 16 + (i - 8 - 8) = i by omega]
      · simp [h1, show ¬ i - 8 < 8 by omega, show ¬ i - 8 - 8 < 8 by omega, show i - 8 - 8 - 8 < 8 by omega,
          show 24 + (i - 8 - 8 - 8) = i by omega]

/-- A word at the front of a byte string is taken off it. -/
@[simp] theorem takeWord_wordBytes (w : Word) (rest : List Byte) : takeWord (wordBytes w ++ rest) = some (w, rest) := by
  simp [wordBytes, takeWord, wordOfBytes_wordBytes]

/-- The two halves of a 64-bit value make it again. -/
theorem dword_halves (v : DWord) : v.extractLsb' 32 32 ++ v.extractLsb' 0 32 = v := by
  apply BitVec.eq_of_getLsbD_eq
  intro i hi
  simp only [BitVec.getLsbD_append, BitVec.getLsbD_extractLsb']
  by_cases h1 : i < 32
  · simp [h1]
  · simp [h1, show i - 32 < 32 by omega, show 32 + (i - 32) = i by omega]

/-- R87: a 64-bit value at the front of a byte string is taken off it. -/
@[simp] theorem takeDWord_le64 (v : DWord) (rest : List Byte) : takeDWord (le64 v ++ rest) = some (v, rest) := by
  simp [takeDWord, le64, List.append_assoc, dword_halves]

/-- R88: a stored total loads as it was written. -/
@[simp] theorem decodeTotal_le64 (v : DWord) : decodeTotal (some (le64 v)) = v := by
  have := takeDWord_le64 v []
  rw [List.append_nil] at this
  simp [decodeTotal, this]

/-! ## Narrowing (R11) -/

theorem sat32_toNat (v : Nat) : (sat32 v).toNat = min v max32 := by
  simp only [sat32, BitVec.toNat_ofNat, max32]; omega

theorem sat64_toNat (v : Nat) : (sat64 v).toNat = min v max64 := by
  simp only [sat64, BitVec.toNat_ofNat, max64]; omega

/-! ## The accumulator (R155, R163 to R166) -/

/-- R164: a merge never lowers the total. -/
theorem addTotal_total (d : Word) (a : AccBank) : (a.addTotal d).total.toNat = min (a.total.toNat + d.toNat) max64 := by
  unfold AccBank.addTotal
  have := a.total.isLt
  split
  · rename_i h
    simp only [BitVec.toNat_ofNat, max64] at h ⊢
    omega
  · rename_i h
    simp only [BitVec.toNat_ofNat, max64] at h ⊢
    omega

/-- R163 to R166: the bank after `FLUSH`, field by field. -/
theorem flush_fields (u h : Word) (a : AccBank) :
    (a.flush u h).pending = 0 ∧ (a.flush u h).total.toNat = min (a.total.toNat + a.pending.toNat) max64 ∧
      (a.flush u h).sinceRpt = sat32 (a.sinceRpt.toNat + a.pending.toNat) ∧
      (a.flush u h).durEdges = sat32 (a.durEdges.toNat + a.pending.toNat) ∧
      (a.flush u h).winCount = sat32 (a.winCount.toNat + a.pending.toNat) ∧
      (a.flush u h).lastEdge = a.lastEdge ∧ (a.flush u h).armed = a.armed ∧ (a.flush u h).leValid = a.leValid ∧
      (a.flush u h).pendOvf = a.pendOvf ∧ (a.flush u h).winStart = a.winStart ∧ (a.flush u h).lastRate = a.lastRate ∧
      (a.flush u h).sync = a.sync := by
  have ht := addTotal_total a.pending { a with pending := 0 }
  unfold AccBank.flush AccBank.merge
  generalize hb : AccBank.addTotal a.pending { a with pending := 0 } = b at ht
  have hf : b = { a with pending := 0, total := b.total, totalSat := b.totalSat } := by
    rw [← hb]; unfold AccBank.addTotal; split <;> rfl
  rw [hf]
  exact ⟨rfl, ht, rfl, rfl, rfl, rfl, rfl, rfl, rfl, rfl, rfl, rfl⟩

/-- R163, R165: the flags after `FLUSH`. -/
theorem flush_flags (u h : Word) (a : AccBank) :
    (a.flush u h).totalSat = (a.totalSat || decide (max64 < a.total.toNat + a.pending.toNat)) ∧
      (a.flush u h).reportReq = (a.reportReq || (decide (0 < a.pending.toNat) &&
        decide (h.toNat ≤ (a.flush u h).sinceRpt.toNat * u.toNat))) ∧
      (a.flush u h).auxSat = (((a.auxSat || decide (max32 < a.sinceRpt.toNat + a.pending.toNat)) ||
        decide (max32 < a.durEdges.toNat + a.pending.toNat)) ||
        decide (max32 < a.winCount.toNat + a.pending.toNat)) := by
  by_cases hs : max64 < a.total.toNat + a.pending.toNat
  · simp [AccBank.flush, AccBank.merge, AccBank.addTotal, AccBank.addSinceRpt, AccBank.raiseReport, AccBank.addDurEdges,
      AccBank.addWinCount, hs]
  · simp [AccBank.flush, AccBank.merge, AccBank.addTotal, AccBank.addSinceRpt, AccBank.raiseReport, AccBank.addDurEdges,
      AccBank.addWinCount, hs]

/-- R155: an edge is either without effect or accepted, and then its bank and its latch are all it changes. -/
theorem onEdge_cases (c : Channel) (s : State) :
    (((s.acc c).armed && (s.acc c).accepts (refractOf s.cfg c) s.aon.time) = false ∧ onEdge c s = s) ∨
      (((s.acc c).armed && (s.acc c).accepts (refractOf s.cfg c) s.aon.time) = true ∧
        onEdge c s = { s.setAcc c ((s.acc c).acceptEdge s.aon.time) with
          aon := { (s.setAcc c ((s.acc c).acceptEdge s.aon.time)).aon with
            wakePend := setLatch (edgeSource c) s.aon.wakePend } }) := by
  unfold onEdge
  cases h : ((s.acc c).armed && (s.acc c).accepts (refractOf s.cfg c) s.aon.time)
  · exact .inl ⟨rfl, by simp [h]⟩
  · exact .inr ⟨rfl, by simp [h]⟩

/-- R153, R154: accepting an edge leaves the merged counters alone. -/
theorem acceptEdge_kept (t : DWord) (a : AccBank) :
    (a.acceptEdge t).total = a.total ∧ (a.acceptEdge t).totalSat = a.totalSat ∧ (a.acceptEdge t).sinceRpt = a.sinceRpt ∧
      (a.acceptEdge t).durEdges = a.durEdges ∧ (a.acceptEdge t).winCount = a.winCount ∧
      (a.acceptEdge t).armed = a.armed ∧ (a.acceptEdge t).sync = a.sync ∧ (a.acceptEdge t).lastEdge = t ∧
      (a.acceptEdge t).leValid = true := by
  unfold AccBank.acceptEdge AccBank.countPending
  split <;> exact ⟨rfl, rfl, rfl, rfl, rfl, rfl, rfl, rfl, rfl⟩

/-! ## Battery percentage (R215) -/

theorem pct_low {g : Cfg} {mv : Word} (h : mv.toNat ≤ g.battLoMv.toNat) : pct g mv = 0 := by simp [pct, h]

theorem pct_high {g : Cfg} {mv : Word} (hg : g.battLoMv.toNat < g.battHiMv.toNat) (h : g.battHiMv.toNat ≤ mv.toNat) :
    pct g mv = 100 := by
  have : ¬ mv.toNat ≤ g.battLoMv.toNat := by omega
  simp [pct, h, this]

theorem pct_quotient_le {n d : Nat} (hd : n < d) : (200 * n + d) / (2 * d) ≤ 100 := by
  have : (200 * n + d) / (2 * d) < 101 := by
    rw [Nat.div_lt_iff_lt_mul (by omega)]
    omega
  omega

/-- R215: the percentage between the bounds. -/
theorem pct_between {g : Cfg} {mv : Word} (h1 : g.battLoMv.toNat < mv.toNat) (h2 : mv.toNat < g.battHiMv.toNat) :
    (pct g mv).toNat = (200 * (mv.toNat - g.battLoMv.toNat) + (g.battHiMv.toNat - g.battLoMv.toNat)) /
      (2 * (g.battHiMv.toNat - g.battLoMv.toNat)) := by
  have h3 : ¬ mv.toNat ≤ g.battLoMv.toNat := by omega
  have h4 : ¬ g.battHiMv.toNat ≤ mv.toNat := by omega
  have h5 := pct_quotient_le (n := mv.toNat - g.battLoMv.toNat) (d := g.battHiMv.toNat - g.battLoMv.toNat) (by omega)
  simp only [pct, h3, h4, if_false, BitVec.toNat_ofNat]
  exact Nat.mod_eq_of_lt (Nat.lt_of_le_of_lt h5 (by decide))

/-! ## Retries and durable writes (R134, R217, R232, R246) -/

/-- R134, R135, R138: the outcomes of a probe. -/
theorem probeStep_cases (dev : Byte) (k : BitVec 5) (found absent : State → State) (s : State) :
    (s.ans.ready = false ∧ probeStep dev k found absent s = .next s) ∨
      ∃ a t, reqProbe dev s = some (a, t) ∧
        ((a = .found ∧ probeStep dev k found absent s = .next (found (setTry 0 t))) ∨
          (a = .mismatch ∧ probeStep dev k found absent s = .next (absent (setTry 0 t))) ∨
          (a = .busErr ∧ retriesLeft t = true ∧
            probeStep dev k found absent s = .next (goto .activeSession k (setTry (t.main.tryCount + 1) t))) ∨
          (a = .busErr ∧ retriesLeft t = false ∧ probeStep dev k found absent s = .next (absent (setTry 0 t)))) := by
  cases hr : s.ans.ready
  · exact .inl ⟨rfl, by simp [probeStep, reqProbe, hr, hold]⟩
  · refine .inr ?_
    cases h : reqProbe dev s with
    | none => simp [reqProbe, transact_answered hr] at h
    | some x =>
      obtain ⟨a, t⟩ := x
      refine ⟨a, t, rfl, ?_⟩
      cases a
      · exact .inl ⟨rfl, by simp [probeStep, h]⟩
      · exact .inr (.inl ⟨rfl, by simp [probeStep, h]⟩)
      · cases hl : retriesLeft t
        · exact .inr (.inr (.inr ⟨rfl, rfl, by simp [probeStep, h, hl]⟩))
        · exact .inr (.inr (.inl ⟨rfl, rfl, by simp [probeStep, h, hl]⟩))

/-- R217: the outcomes of a sensor read. -/
theorem readStep_cases (q : Quantity) (k k' : BitVec 5) (s : State) :
    (sourceOf s.aon.combo q = 0 ∧
        readStep q k k' s = .next (goto .activeSession k' (setTry 0 (setSval q (sentinelOf s.cfg q) s)))) ∨
      (sourceOf s.aon.combo q ≠ 0 ∧ s.ans.ready = false ∧ readStep q k k' s = .next s) ∨
      (sourceOf s.aon.combo q ≠ 0 ∧ ∃ v t, reqSensorRead ((sourceOf s.aon.combo q).setWidth 8) q.code s = some (v, t) ∧
        ((∃ w, v = some w ∧ readStep q k k' s = .next (goto .activeSession k' (setTry 0 (setSval q w t)))) ∨
          (v = none ∧ retriesLeft t = true ∧
            readStep q k k' s = .next (goto .activeSession k (setTry (t.main.tryCount + 1) t))) ∨
          (v = none ∧ retriesLeft t = false ∧
            readStep q k k' s = .next (goto .activeSession k' (setTry 0 (setSval q (sentinelOf s.cfg q) t)))))) := by
  by_cases h0 : sourceOf s.aon.combo q = 0
  · exact .inl ⟨h0, by simp only [readStep, if_pos h0]⟩
  · refine .inr ?_
    cases hr : s.ans.ready
    · exact .inl ⟨h0, rfl, by simp only [readStep, if_neg h0, reqSensorRead, transact_unanswered hr, Option.map_none, hold]⟩
    · refine .inr ⟨h0, ?_⟩
      have hc : ∀ x, reqSensorRead ((sourceOf s.aon.combo q).setWidth 8) q.code s = x → x ≠ none := by
        intro x hx hn
        rw [hn] at hx
        simp [reqSensorRead, transact_answered hr] at hx
      cases h : reqSensorRead ((sourceOf s.aon.combo q).setWidth 8) q.code s with
      | none => exact absurd h (fun e => hc _ e rfl)
      | some x =>
        obtain ⟨v, t⟩ := x
        have hcfg : t.cfg = s.cfg := by
          simp only [reqSensorRead, transact_answered hr, Option.map_some, Option.some.injEq, Prod.mk.injEq] at h
          rw [← h.2]
        refine ⟨v, t, rfl, ?_⟩
        cases v with
        | some w => exact .inl ⟨w, rfl, by simp only [readStep, if_neg h0, h]⟩
        | none =>
          cases hl : retriesLeft t
          · exact .inr (.inr ⟨rfl, rfl, by simp only [readStep, if_neg h0, h, hl, hcfg, Bool.false_eq_true, if_false]⟩)
          · exact .inr (.inl ⟨rfl, rfl, by simp only [readStep, if_neg h0, h, hl, if_true]⟩)

/-- R232: the outcomes of a durable write. -/
theorem persistStep_cases (c : Channel) (k' : BitVec 5) (s : State) :
    (persistDue c s = false ∧ persistStep c k' s = .next (goto .enterSleep k' s)) ∨
      (persistDue c s = true ∧ s.ans.ready = false ∧ persistStep c k' s = .next s) ∨
      (persistDue c s = true ∧ ∃ ok t, reqStoreSet (keyTotal c) (le64 (s.acc c).total) s = some (ok, t) ∧
        persistStep c k' s = .next (goto .enterSleep k'
          (if ok then t.setAcc c { t.acc c with durEdges := 0 } else t))) := by
  cases hd : persistDue c s
  · exact .inl ⟨rfl, by simp [persistStep, hd]⟩
  · refine .inr ?_
    cases hr : s.ans.ready
    · exact .inl ⟨rfl, rfl, by simp [persistStep, hd, reqStoreSet, hr, hold]⟩
    · refine .inr ⟨rfl, ?_⟩
      cases h : reqStoreSet (keyTotal c) (le64 (s.acc c).total) s with
      | none => simp [reqStoreSet, transact_answered hr] at h
      | some x =>
        obtain ⟨ok, t⟩ := x
        exact ⟨ok, t, rfl, by simp [persistStep, hd, h]⟩

/-- R246: the outcomes of a channel's factory clear. -/
theorem clearStep_cases (c : Channel) (k' : BitVec 5) (s : State) :
    (s.ans.ready = false ∧ clearStep c k' s = .next s) ∨
      ∃ ok t, reqStoreSet (keyTotal c) (le64 0) (factoryClear c s) = some (ok, t) ∧
        clearStep c k' s = .next (goto .factoryReset k' t) := by
  have hf : (factoryClear c s).ans = s.ans := by cases c <;> rfl
  cases hr : s.ans.ready
  · refine .inl ⟨rfl, ?_⟩
    have : (factoryClear c s).ans.ready = false := by rw [hf, hr]
    simp [clearStep, reqStoreSet, this, hold]
  · refine .inr ?_
    cases h : reqStoreSet (keyTotal c) (le64 0) (factoryClear c s) with
    | none =>
      have : (factoryClear c s).ans.ready = true := by rw [hf, hr]
      simp [reqStoreSet, transact_answered this] at h
    | some x =>
      obtain ⟨ok, t⟩ := x
      exact ⟨ok, t, rfl, by simp only [clearStep, h]⟩

/-! ## Suspension (R237, R240) -/

/-- R237: all a LIGHT suspension does. -/
theorem suspend_light (s : State) : suspend false s = goto .sleeping 0 { s with
    aon := { s.aon with lastVariant := false, asleep := true }, trace := s.trace ++ [⟨0x0000000A, []⟩] } := by
  simp [suspend, emit, variantCode, requestHeader, ReqKind.code]

/-- R237, R240: all a DEEP suspension does: it owes a join, and `FSM_EN` is 1 in it. -/
theorem suspend_deep (s : State) : suspend true s = goto .sleeping 0 { s with
    aon := { s.aon with lastVariant := true, joinPending := true, asleep := true, fsmEn := true }
    trace := s.trace ++ [⟨0x0000010A, []⟩] } := by
  simp [suspend, emit, variantCode, requestHeader, ReqKind.code]

/-- R240: a suspension in DEEP has `FSM_EN` 1. -/
theorem suspend_deep_enabled {d : Bool} {s : State} (h : deepAsleep (suspend d s) = true) : (suspend d s).aon.fsmEn = true := by
  cases d
  · simp [suspend_light, deepAsleep, goto] at h
  · simp [suspend_deep, goto]

/-! ## Wake latches (R310, R314) -/

/-- R314: the source that is served is one of the mask. -/
theorem pri_mem {m : BitVec 4} (h : m ≠ 0) : m &&& (pri m).mask ≠ 0 := by revert m; decide

/-- R241: clearing one latch leaves the others. -/
theorem clearLatch_other {j k : WakeSrc} (h : j ≠ k) (p : BitVec 4) : clearLatch k p &&& j.mask = p &&& j.mask := by
  revert p; cases j <;> cases k <;> first | exact absurd rfl h | decide

/-- R310: setting one latch leaves the others, and sets its own. -/
theorem setLatch_mask (k : WakeSrc) (p : BitVec 4) : setLatch k p &&& k.mask = k.mask := by revert p; cases k <;> decide

/-! ## The register bus (R73, R74) -/

/-- R74, R76: an access that reaches a register is a word access to a mapped, aligned address outside a DEEP suspension. -/
theorem busTarget_eq_some {addr : BitVec 12} {size : BitVec 3} {s : State} {r : Reg} (h : busTarget addr size s = some r) :
    size = 4 ∧ addr.extractLsb' 0 2 = 0 ∧ deepAsleep s = false ∧ lookupReg addr.toNat regMap = some r := by
  unfold busTarget at h
  split at h
  · simp at h
  · split at h
    · simp at h
    · split at h
      · simp at h
      · rename_i h1 h2 h3
        exact ⟨by simpa using h1, by simpa using h2, by simpa using h3, h⟩

set_option maxRecDepth 8000 in
/-- R64: every word of the map is at a word-aligned address and is found there. -/
theorem regMap_found : ∀ p ∈ regMap, lookupReg p.1 regMap = some p.2 ∧ (BitVec.ofNat 12 p.1).extractLsb' 0 2 = 0 := by decide

/-- R73, R74: outside a DEEP suspension a four-byte access to a mapped address reaches its register. -/
theorem busTarget_of_mem {s : State} {addr : BitVec 12} {r : Reg} (hm : (addr.toNat, r) ∈ regMap) (h : deepAsleep s = false) :
    busTarget addr 4 s = some r := by
  obtain ⟨h1, h2⟩ := regMap_found _ hm
  simp only [BitVec.ofNat_toNat, BitVec.setWidth_eq] at h2
  unfold busTarget
  rw [if_neg (by simp), if_neg (by rw [h2]; simp), h]
  simpa using h1

/-- R103: a command word without an error is a command of the table. -/
theorem commandError_none {w : Word} (h : commandError false w = none) : ∃ i, decodeCmd w = .ok i := by
  unfold commandError at h
  split at h
  · simp at h
  · split at h
    · simp at h
    · split at h
      · simp at h
      · rename_i _ h1 h2
        unfold decodeCmd
        simp only [if_neg h1]
        generalize hn : (w.extractLsb' 0 8).toNat = n at h2
        have : n = 0 ∨ n = 1 ∨ n = 2 ∨ n = 3 ∨ n = 4 ∨ n = 5 ∨ n = 6 := by omega
        rcases this with rfl | rfl | rfl | rfl | rfl | rfl | rfl <;> exact ⟨_, rfl⟩

/-! ## The step (R6, R89) -/

/-- What a step that answers a next state did: it opened a cycle, or it ran what stood first on the agenda. -/
theorem step_cases {s t : State} (h : step s = .next t) :
    cfgValid s.cfg = true ∧ ((s.agenda = [] ∧ t = openCycle s) ∨
      ∃ slot rest, s.agenda = slot :: rest ∧ runSlot slot { s with agenda := rest } = .next t) := by
  unfold step at h
  split at h
  · rename_i hc
    refine ⟨hc, ?_⟩
    split at h
    · rename_i ha
      exact .inl ⟨ha, by simpa using h.symm⟩
    · rename_i slot rest ha
      exact .inr ⟨slot, rest, ha, h⟩
  · simp at h

/-- What a slot that answers a next state did: it ran an instruction, or it took the error of bits that are none. -/
theorem runSlot_cases {slot : Slot} {s t : State} (h : runSlot slot s = .next t) :
    (∃ i, fetch slot s = .ok i ∧ exec i s = .next t) ∨
      (∃ w, slot = .cmd w ∧ t = takeCmdError ((commandError s.cycEn w).getD .illegalOpcode) s) := by
  unfold runSlot at h
  split at h
  · rename_i i hi
    exact .inl ⟨i, hi, h⟩
  · rename_i e he
    cases slot with
    | bus b => simp [fetch] at he
    | cmd w => exact .inr ⟨w, rfl, by simpa [onUndecoded] using h.symm⟩
    | fsm => simp [onUndecoded] at h
    | req hdr p => simp [onUndecoded] at h
    | evt w => simp [onUndecoded] at h

end Sys2Proof.Machine
end

