-- ==== Sys2Proof/Laws/PerInstr.lean ====
section
/-! SUPPORT. The families of lemmas with one lemma for each constructor of `Instr`. `EncodedLength`: how many bytes a well-formed
instruction is (30_encoding.md R100, R110, R116, R122; 20_memory.md R73). -/

namespace Sys2Proof.Laws

/-- How many payload bytes follow a request header (R110); no other format has a payload. -/
def payloadBytes : Instr → Nat
  | .reqReport _ _ _ => 8
  | .reqStoreSet _ b _ => b.toNat
  | .reqWakeCfg _ _ _ => 4
  | _ => 0

/-- How many bytes the word of a format is. -/
def wordLength : Format → Nat
  | .cmd => 4
  | .req => 4
  | .evt => 4
  | .busRd => 2
  | .busWr => 6
  | .fsm => 1

/-- A well-formed instruction is its word and its payload, and no byte more. -/
def EncodedLength.Statement (i : Instr) : Prop := WellFormed i → (encode i).length = wordLength (formatOf i) + payloadBytes i

theorem EncodedLength.nop (ch : Channel) : EncodedLength.Statement (.nop ch) := fun _ => rfl
theorem EncodedLength.arm (ch : Channel) : EncodedLength.Statement (.arm ch) := fun _ => rfl
theorem EncodedLength.flush (ch : Channel) : EncodedLength.Statement (.flush ch) := fun _ => rfl
theorem EncodedLength.readTotal (ch : Channel) : EncodedLength.Statement (.readTotal ch) := fun _ => rfl
theorem EncodedLength.resetTo (ch : Channel) : EncodedLength.Statement (.resetTo ch) := fun _ => rfl
theorem EncodedLength.sampleRate (ch : Channel) : EncodedLength.Statement (.sampleRate ch) := fun _ => rfl
theorem EncodedLength.ackReport (ch : Channel) : EncodedLength.Statement (.ackReport ch) := fun _ => rfl
theorem EncodedLength.reqJoin (a b : Byte) : EncodedLength.Statement (.reqJoin a b) := fun _ => rfl
theorem EncodedLength.reqReport (a b : Byte) (v : DWord) : EncodedLength.Statement (.reqReport a b v) := fun _ => rfl
theorem EncodedLength.reqStoreGet (a b : Byte) : EncodedLength.Statement (.reqStoreGet a b) := fun _ => rfl
theorem EncodedLength.reqStoreSet (a b : Byte) (bytes : List Byte) : EncodedLength.Statement (.reqStoreSet a b bytes) := by
  intro h
  have hb : bytes.length = b.toNat := by simpa [WellFormed, Instr.wellFormed] using h
  simp only [encode, wordBytes, formatOf, wordLength, payloadBytes, List.length_append, List.length_cons, List.length_nil, hb]
theorem EncodedLength.reqProbe (a b : Byte) : EncodedLength.Statement (.reqProbe a b) := fun _ => rfl
theorem EncodedLength.reqSensorRead (a b : Byte) : EncodedLength.Statement (.reqSensorRead a b) := fun _ => rfl
theorem EncodedLength.reqBattSample (a b : Byte) : EncodedLength.Statement (.reqBattSample a b) := fun _ => rfl
theorem EncodedLength.reqWakeCfg (a b : Byte) (d : Word) : EncodedLength.Statement (.reqWakeCfg a b d) := fun _ => rfl
theorem EncodedLength.reqSetLevel (a b : Byte) : EncodedLength.Statement (.reqSetLevel a b) := fun _ => rfl
theorem EncodedLength.reqSleepReq (a b : Byte) : EncodedLength.Statement (.reqSleepReq a b) := fun _ => rfl
theorem EncodedLength.evtTick (lvl : Bool) : EncodedLength.Statement (.evtTick lvl) := fun _ => rfl
theorem EncodedLength.evtInRain (lvl : Bool) : EncodedLength.Statement (.evtInRain lvl) := fun _ => rfl
theorem EncodedLength.evtInWind (lvl : Bool) : EncodedLength.Statement (.evtInWind lvl) := fun _ => rfl
theorem EncodedLength.evtInBtn (lvl : Bool) : EncodedLength.Statement (.evtInBtn lvl) := fun _ => rfl
theorem EncodedLength.evtInAssoc (lvl : Bool) : EncodedLength.Statement (.evtInAssoc lvl) := fun _ => rfl
theorem EncodedLength.evtInIdle (lvl : Bool) : EncodedLength.Statement (.evtInIdle lvl) := fun _ => rfl
theorem EncodedLength.evtInFactory (lvl : Bool) : EncodedLength.Statement (.evtInFactory lvl) := fun _ => rfl
theorem EncodedLength.evtPor (lvl : Bool) : EncodedLength.Statement (.evtPor lvl) := fun _ => rfl
theorem EncodedLength.busRd (addr : BitVec 12) (size : BitVec 3) : EncodedLength.Statement (.busRd addr size) := fun _ => rfl
theorem EncodedLength.busWr (addr : BitVec 12) (size : BitVec 3) (d : Word) : EncodedLength.Statement (.busWr addr size d) := fun _ => rfl
theorem EncodedLength.boot0 : EncodedLength.Statement .boot0 := fun _ => rfl
theorem EncodedLength.boot1 : EncodedLength.Statement .boot1 := fun _ => rfl
theorem EncodedLength.boot2 : EncodedLength.Statement .boot2 := fun _ => rfl
theorem EncodedLength.boot3 : EncodedLength.Statement .boot3 := fun _ => rfl
theorem EncodedLength.join0 : EncodedLength.Statement .join0 := fun _ => rfl
theorem EncodedLength.join1 : EncodedLength.Statement .join1 := fun _ => rfl
theorem EncodedLength.join2 : EncodedLength.Statement .join2 := fun _ => rfl
theorem EncodedLength.activeSession0 : EncodedLength.Statement .activeSession0 := fun _ => rfl
theorem EncodedLength.activeSession1 : EncodedLength.Statement .activeSession1 := fun _ => rfl
theorem EncodedLength.activeSession2 : EncodedLength.Statement .activeSession2 := fun _ => rfl
theorem EncodedLength.activeSession3 : EncodedLength.Statement .activeSession3 := fun _ => rfl
theorem EncodedLength.activeSession4 : EncodedLength.Statement .activeSession4 := fun _ => rfl
theorem EncodedLength.activeSession5 : EncodedLength.Statement .activeSession5 := fun _ => rfl
theorem EncodedLength.activeSession6 : EncodedLength.Statement .activeSession6 := fun _ => rfl
theorem EncodedLength.activeSession7 : EncodedLength.Statement .activeSession7 := fun _ => rfl
theorem EncodedLength.activeSession8 : EncodedLength.Statement .activeSession8 := fun _ => rfl
theorem EncodedLength.activeSession9 : EncodedLength.Statement .activeSession9 := fun _ => rfl
theorem EncodedLength.activeSession10 : EncodedLength.Statement .activeSession10 := fun _ => rfl
theorem EncodedLength.activeSession11 : EncodedLength.Statement .activeSession11 := fun _ => rfl
theorem EncodedLength.activeSession12 : EncodedLength.Statement .activeSession12 := fun _ => rfl
theorem EncodedLength.activeSession13 : EncodedLength.Statement .activeSession13 := fun _ => rfl
theorem EncodedLength.activeSession14 : EncodedLength.Statement .activeSession14 := fun _ => rfl
theorem EncodedLength.activeSession15 : EncodedLength.Statement .activeSession15 := fun _ => rfl
theorem EncodedLength.activeSession16 : EncodedLength.Statement .activeSession16 := fun _ => rfl
theorem EncodedLength.activeSession17 : EncodedLength.Statement .activeSession17 := fun _ => rfl
theorem EncodedLength.activeSession18 : EncodedLength.Statement .activeSession18 := fun _ => rfl
theorem EncodedLength.activeSession19 : EncodedLength.Statement .activeSession19 := fun _ => rfl
theorem EncodedLength.enterSleep0 : EncodedLength.Statement .enterSleep0 := fun _ => rfl
theorem EncodedLength.enterSleep1 : EncodedLength.Statement .enterSleep1 := fun _ => rfl
theorem EncodedLength.enterSleep2 : EncodedLength.Statement .enterSleep2 := fun _ => rfl
theorem EncodedLength.enterSleep3 : EncodedLength.Statement .enterSleep3 := fun _ => rfl
theorem EncodedLength.enterSleep4 : EncodedLength.Statement .enterSleep4 := fun _ => rfl
theorem EncodedLength.enterSleep5 : EncodedLength.Statement .enterSleep5 := fun _ => rfl
theorem EncodedLength.enterSleep6 : EncodedLength.Statement .enterSleep6 := fun _ => rfl
theorem EncodedLength.enterSleep7 : EncodedLength.Statement .enterSleep7 := fun _ => rfl
theorem EncodedLength.sleeping0 : EncodedLength.Statement .sleeping0 := fun _ => rfl
theorem EncodedLength.wake0 : EncodedLength.Statement .wake0 := fun _ => rfl
theorem EncodedLength.wake1 : EncodedLength.Statement .wake1 := fun _ => rfl
theorem EncodedLength.wake2 : EncodedLength.Statement .wake2 := fun _ => rfl
theorem EncodedLength.wake3 : EncodedLength.Statement .wake3 := fun _ => rfl
theorem EncodedLength.factoryReset0 : EncodedLength.Statement .factoryReset0 := fun _ => rfl
theorem EncodedLength.factoryReset1 : EncodedLength.Statement .factoryReset1 := fun _ => rfl
theorem EncodedLength.factoryReset2 : EncodedLength.Statement .factoryReset2 := fun _ => rfl
theorem EncodedLength.factoryReset3 : EncodedLength.Statement .factoryReset3 := fun _ => rfl

end Sys2Proof.Laws
end

