-- ==== Sys2Proof/Tests/Slice0.lean ====
section
/-! SUPPORT. The model's own tests: ill-formed terms refused, every constructor decoded from a word written out from the spec's encoding,
single steps against the vectors of spec/95_test_vectors.md, and for every statement with hypotheses the states that meet them. -/

open Sys2Proof Sys2Proof.Machine Sys2Proof.Claims

namespace Sys2Proof.Tests

/-! ## Helpers -/

/-- The instruction completes and the state it answers has the property. -/
def after (r : Result) (p : State → Bool) : Bool :=
  match r with
  | .next t => p t
  | _ => false

/-- The machine after reset, its collaborators answering with a status and a value. -/
def answering (status : Byte) (data : DWord) : State := { State.reset with ans := ⟨true, status, data⟩ }

/-- The AON registers changed. -/
def onAon (f : Aon → Aon) (s : State) : State := { s with aon := f s.aon }

/-- The MAIN registers changed. -/
def onMain (f : Main → Main) (s : State) : State := { s with main := f s.main }

/-- Manual mode after reset. -/
def manual : State := onAon ({ · with fsmEn := false }) { State.reset with cycEn := false }

/-- An armed rain channel with no accepted edge yet. -/
def armedBank : AccBank := { AccBank.cold with armed := true }

/-- An armed channel whose synchroniser shows a rising edge at the next sample. -/
def risingBank : AccBank := { armedBank with sync := ⟨true, false, false⟩ }

/-- In a DEEP suspension. -/
def deepState : State := onAon ({ · with asleep := true, lastVariant := true, joinPending := true })
  (onMain ({ · with state := 4 }) State.reset)

/-! ## Ill-formed terms are refused -/

theorem test_illformed_join_argument : (Instr.reqJoin 1 0).wellFormed = false := by decide
theorem test_illformed_report_channel : (Instr.reqReport 8 0 0).wellFormed = false := by decide
theorem test_illformed_store_get_argument : (Instr.reqStoreGet 1 1).wellFormed = false := by decide
theorem test_illformed_store_set_length : (Instr.reqStoreSet 1 2 [0]).wellFormed = false := by decide
theorem test_illformed_probe_device : (Instr.reqProbe 0 0).wellFormed = false := by decide
theorem test_illformed_sensor_quantity : (Instr.reqSensorRead 1 3).wellFormed = false := by decide
theorem test_illformed_batt_argument : (Instr.reqBattSample 0 1).wellFormed = false := by decide
theorem test_illformed_wake_cfg_sources : (Instr.reqWakeCfg 16 0 0).wellFormed = false := by decide
theorem test_illformed_wake_cfg_variant : (Instr.reqWakeCfg 1 2 0).wellFormed = false := by decide
theorem test_illformed_set_level : (Instr.reqSetLevel 5 2).wellFormed = false := by decide
theorem test_illformed_sleep_variant : (Instr.reqSleepReq 2 0).wellFormed = false := by decide
theorem test_illformed_bus_alignment : (Instr.busRd 0x002 4).wellFormed = false := by decide
theorem test_illformed_bus_size : (Instr.busWr 0x100 2 0).wellFormed = false := by decide

/-! ## Words written out from the spec's encodings -/

/-- R101: the table of section 3 of the vectors. -/
theorem test_decode_commands :
    ([0x00000000, 0x00000101, 0x00000002, 0x00000103, 0x00000004, 0x00000105, 0x00000006] : List Word).map decodeCmd =
      [.ok (.nop .rain), .ok (.arm .wind), .ok (.flush .rain), .ok (.readTotal .wind), .ok (.resetTo .rain),
        .ok (.sampleRate .wind), .ok (.ackReport .rain)] := by decide

/-- R103, R104. -/
theorem test_decode_refused_commands :
    ([0x00000007, 0x000000FF, 0x00000202, 0x80000002, 0x00000207] : List Word).map decodeCmd =
      [.error .illegalOpcode, .error .illegalOpcode, .error .reservedBits, .error .reservedBits, .error .reservedBits] := by
  decide

/-- R110, with the headers of programs P4 and P6. -/
theorem test_decode_requests :
    [decodeReq 0x00000001 [], decodeReq 0x00000202 [1, 0, 0, 0, 2, 0, 0, 0], decodeReq 0x00001003 [],
        decodeReq 0x00011004 [1], decodeReq 0x00000305 [], decodeReq 0x00010206 [], decodeReq 0x00000007 [],
        decodeReq 0x00000F08 [0x60, 0xEA, 0, 0], decodeReq 0x00000509 [], decodeReq 0x0000010A []] =
      [.ok (.reqJoin 0 0, []), .ok (.reqReport 2 0 0x200000001, []), .ok (.reqStoreGet 0x10 0, []),
        .ok (.reqStoreSet 0x10 1 [1], []), .ok (.reqProbe 3 0, []), .ok (.reqSensorRead 2 1, []),
        .ok (.reqBattSample 0 0, []), .ok (.reqWakeCfg 15 0 60000, []), .ok (.reqSetLevel 5 0, []),
        .ok (.reqSleepReq 1 0, [])] := by decide

/-- R110: reserved headers and a short payload. -/
theorem test_decode_refused_requests :
    [decodeReq 0x00000000 [], decodeReq 0x0000000B [], decodeReq 0x01000001 [], decodeReq 0x00080104 [0]] =
      [.error .reservedRequest, .error .reservedRequest, .error .reservedBits, .error .truncated] := by decide

/-- R116. -/
theorem test_decode_stimuli :
    ([0x00000001, 0x00000102, 0x00000003, 0x00000104, 0x00000105, 0x00000006, 0x00000107, 0x00000008] : List Word).map
        decodeEvt =
      [.ok (.evtTick false), .ok (.evtInRain true), .ok (.evtInWind false), .ok (.evtInBtn true), .ok (.evtInAssoc true),
        .ok (.evtInIdle false), .ok (.evtInFactory true), .ok (.evtPor false)] := by decide

theorem test_decode_refused_stimuli :
    ([0x00000000, 0x00000009, 0x00000201] : List Word).map decodeEvt =
      [.error .reservedStimulus, .error .reservedStimulus, .error .reservedStimulus] := by decide

/-- R73: the address word, then the data. -/
theorem test_decode_bus :
    decode .busRd [0x4C, 0x01] = .ok (.busRd 0x14C 4, []) ∧
      decode .busWr [0x34, 0x01, 0x78, 0x56, 0x34, 0x12] = .ok (.busWr 0x134 4 0x12345678, []) ∧
      decode .busRd [0x4D, 0x01] = .error .badBusAddress ∧ decode .busRd [0x00, 0x10] = .error .badBusAddress := by decide

/-- R200: the codes of `BOOT` and `JOIN_NETWORK`. -/
theorem test_decode_boot_join :
    ([0x00, 0x08, 0x10, 0x18, 0x01, 0x09, 0x11] : List Byte).map decodeFsm =
      [.ok .boot0, .ok .boot1, .ok .boot2, .ok .boot3, .ok .join0, .ok .join1, .ok .join2] := by decide

/-- R200: the codes of `ACTIVE_SESSION`. -/
theorem test_decode_session :
    ([0x02, 0x0A, 0x12, 0x1A, 0x22, 0x2A, 0x32, 0x3A, 0x42, 0x4A, 0x52, 0x5A, 0x62, 0x6A, 0x72, 0x7A, 0x82, 0x8A, 0x92,
        0x9A] : List Byte).map decodeFsm =
      [.ok .activeSession0, .ok .activeSession1, .ok .activeSession2, .ok .activeSession3, .ok .activeSession4,
        .ok .activeSession5, .ok .activeSession6, .ok .activeSession7, .ok .activeSession8, .ok .activeSession9,
        .ok .activeSession10, .ok .activeSession11, .ok .activeSession12, .ok .activeSession13, .ok .activeSession14,
        .ok .activeSession15, .ok .activeSession16, .ok .activeSession17, .ok .activeSession18, .ok .activeSession19] := by
  decide

/-- R200: the codes of the other states, and codes that are not listed (R21). -/
theorem test_decode_sleep_wake_reset :
    ([0x03, 0x0B, 0x13, 0x1B, 0x23, 0x2B, 0x33, 0x3B, 0x04, 0x05, 0x0D, 0x15, 0x1D, 0x06, 0x0E, 0x16, 0x1E, 0x07,
        0xA2] : List Byte).map decodeFsm =
      [.ok .enterSleep0, .ok .enterSleep1, .ok .enterSleep2, .ok .enterSleep3, .ok .enterSleep4, .ok .enterSleep5,
        .ok .enterSleep6, .ok .enterSleep7, .ok .sleeping0, .ok .wake0, .ok .wake1, .ok .wake2, .ok .wake3,
        .ok .factoryReset0, .ok .factoryReset1, .ok .factoryReset2, .ok .factoryReset3, .error .unlistedMicroStep,
        .error .unlistedMicroStep] := by decide

/-- Table words of each width; a word that three formats share is read in the order of log 10. -/
theorem test_table_words :
    decodeTableWord 8 0x3B = some .enterSleep7 ∧ decodeTableWord 16 0x14C = some (.busRd 0x14C 4) ∧
      decodeTableWord 48 0x123456780134 = some (.busWr 0x134 4 0x12345678) ∧
      decodeTableWord 32 0x102 = some (.flush .wind) ∧ decodeTableWord 32 0x107 = some (.evtInFactory true) ∧
      decodeTableWord 32 0x10206 = some (.reqSensorRead 2 1) ∧ decodeTableWord 32 0x0F000000 = none := by decide

/-- A table word placed by `withFetchWord` is what the next step runs (log 11). -/
theorem test_fetch_word_runs :
    after (step (State.reset.withFetchWord 8 0x18)) (fun t => t.aon.rain.armed && pcCode t == 0x01) = true ∧
      after (step (State.reset.withFetchWord 32 0x101)) (fun t => t.aon.wind.armed && t.main.lastOpc == 1) = true ∧
      after (step (State.reset.withFetchWord 32 0x10206)) (fun t => t.trace == [⟨0x10206, []⟩]) = true ∧
      after (step (State.reset.withFetchWord 16 0x14C)) (fun t => t.busOut == .data 0x43410001) = true ∧
      after (step (State.reset.withFetchWord 48 0x000000050104)) (fun t => t.main.argLo == 5) = true := by decide

/-! ## Edge detection (vectors of section 2) -/

/-- V1.1: the first sample of a rise is no edge, the second is. -/
theorem test_V1_1_rise_takes_two_samples :
    after (execEvtInRain true (onAon ({ · with rain := armedBank }) manual))
      (fun t => t.aon.rain.sync == ⟨true, false, false⟩ && t.aon.rain.pending == 0) = true := by decide

/-- V1.4. -/
theorem test_V1_4_first_edge :
    after (execEvtInRain true (onAon ({ · with rain := risingBank, time := 12345 }) manual))
      (fun t => t.aon.rain.pending == 1 && t.aon.rain.lastEdge == 12345 && t.aon.rain.leValid && t.aon.wakePend == 0x2) = true := by
  decide

/-- V1.5, V1.10: one tick inside the window, exactly at its end, and across the wrap of `TIME`. -/
theorem test_V1_5_refractory_window :
    (({ armedBank with leValid := true, lastEdge := 1000 }).accepts 200 1199,
      ({ armedBank with leValid := true, lastEdge := 1000 }).accepts 200 1200,
      ({ armedBank with leValid := true, lastEdge := 0xFFFFFFFFFFFFFFFE }).accepts 200 5) = (false, true, false) := by decide

/-- V1.8. -/
theorem test_V1_8_pending_saturates :
    after (execEvtInWind false (onAon ({ · with wind := { risingBank with pending := 0xFFFFFFFF } }) manual))
      (fun t => t.aon.wind.pending == 0xFFFFFFFF && t.aon.wind.pendOvf && t.aon.wakePend == 0x4) = true := by decide

/-- V1.3: an edge of a channel that is not armed. -/
theorem test_V1_3_unarmed_edge_ignored :
    after (execEvtInWind true (onAon ({ · with wind := { AccBank.cold with sync := ⟨true, false, false⟩ } }) manual))
      (fun t => t.aon.wind.pending == 0 && t.aon.wakePend == 0 && !t.aon.wind.leValid) = true := by decide

/-! ## Commands (vectors of sections 3 and 4) -/

/-- V2.5, V2.7: reserved bits come before the opcode. -/
theorem test_V2_7_reserved_bits_first :
    after (execBusWr 0x100 4 0x00000207 manual) (fun t => t.main.cmdStatusWord == 0x00000005) = true := by decide

/-- V2.8: refused in autonomous mode. -/
theorem test_V2_8_rejected :
    after (execBusWr 0x100 4 0x00000002 State.reset) (fun t => t.main.cmdStatusWord == 0x00000007) = true := by decide

/-- V2.13, V3.15: `NOP` counts and leaves `ERR` alone. -/
theorem test_V2_13_nop_keeps_error :
    after (execNop .rain (onMain ({ · with cmdErr := true, cmdErrCode := 1, cmdCount := 5 }) manual))
      (fun t => t.main.cmdStatusWord == 0x00060003) = true := by decide

/-- V3.1. -/
theorem test_V3_1_flush :
    after (execFlush .rain (onAon ({ · with rain := { armedBank with pending := 3, total := 10 } }) manual))
      (fun t => t.main.res.r0 == 3 && t.aon.rain.pending == 0 && t.aon.rain.total == 13 && t.aon.rain.sinceRpt == 3
        && t.aon.rain.durEdges == 3 && t.aon.rain.winCount == 3 && t.aon.rain.reportReq) = true := by decide

/-- V3.3. -/
theorem test_V3_3_total_saturates :
    after (execFlush .rain (onAon ({ · with rain := { armedBank with pending := 5, total := 0xFFFFFFFFFFFFFFFE } }) manual))
      (fun t => t.aon.rain.total == 0xFFFFFFFFFFFFFFFF && t.aon.rain.totalSat && t.main.res.r0 == 5) = true := by decide

/-- V3.11. -/
theorem test_V3_11_reset_to :
    after (execResetTo .rain (onMain ({ · with argHi := 1 }) (onAon ({ · with rain := { armedBank with total := 7, sinceRpt := 2 } }) manual)))
      (fun t => t.aon.rain.total == 0x100000000 && t.aon.rain.sinceRpt == 0 && t.aon.rain.armed) = true := by decide

/-- V3.13. -/
theorem test_V3_13_read_total :
    after (execReadTotal .rain (onAon ({ · with rain := { armedBank with total := 0x200000005, pending := 3 } }) manual))
      (fun t => t.main.res == ⟨5, 2, 0, 0, 0, 0⟩) = true := by decide

/-- V3.16. -/
theorem test_V3_16_arm :
    after (execArm .wind manual) (fun t => t.aon.wind.armed && !t.aon.rain.armed && t.main.cmdCount == 1) = true := by decide

/-- V3.17. -/
theorem test_V3_17_ack_report :
    after (execAckReport .rain
        (onAon ({ · with rain := { armedBank with sinceRpt := 3, reportReq := true, total := 3, durEdges := 3 } }) manual))
      (fun t => t.aon.rain.sinceRpt == 0 && !t.aon.rain.reportReq && t.aon.rain.total == 3 && t.aon.rain.durEdges == 3) = true := by
  decide

/-- V3.18. -/
theorem test_V3_18_sample_rate :
    after (execSampleRate .wind (onAon ({ · with wind := { armedBank with winCount := 30 }, time := 10000 }) manual))
      (fun t => t.main.res == ⟨0, 30, 10000, 0, 2001, 0⟩ && t.aon.wind.lastRate == 2001 && t.aon.wind.winCount == 0
        && t.aon.wind.winStart == 10000) = true := by decide

/-- V3.20, V3.21: no elapsed tick, and a rate rounded toward zero. -/
theorem test_V3_20_rate_corners : (rate 4 667000 0, rate 1 1 3) = (0, 0) := by decide

/-! ## The register bus (vectors of section 5) -/

/-- V4.1. -/
theorem test_V4_1_id : after (execBusRd 0x14C 4 State.reset) (fun t => t.busOut == .data 0x43410001) = true := by decide

/-- V4.2, V4.4: a misaligned and a two-byte access. -/
theorem test_V4_2_bus_error :
    after (execBusRd 0x002 4 State.reset) (fun t => t.busOut == .err 0x002) = true ∧
      after (execBusWr 0x000 2 1 State.reset) (fun t => t.busOut == .err 0x000) = true := by decide

/-- V4.7. -/
theorem test_V4_7_write_one_to_clear :
    after (execBusWr 0x014 4 0x7 (onAon ({ · with rain := { armedBank with leValid := true, pendOvf := true } }) State.reset))
      (fun t => t.aon.rain.statusWord == 0x03) = true := by decide

/-- V4.8: the low half is answered and the high half latched. -/
theorem test_V4_8_low_word_latches :
    after (execBusRd 0x000 4 (onAon ({ · with rain := { armedBank with total := 0x200000005 } }) State.reset))
      (fun t => t.busOut == .data 5 && t.main.shadow == 2) = true := by decide

/-- V4.11, V4.12. -/
theorem test_V4_11_no_access_in_deep :
    after (execBusRd 0x14C 4 deepState) (fun t => t.busOut == .err 0x14C) = true ∧
      after (execBusRd 0x14C 4 (onAon ({ · with asleep := true }) State.reset))
        (fun t => t.busOut == .data 0x43410001) = true := by decide

/-! ## Store, identification, battery (vectors of sections 6 to 8) -/

/-- V5.1 to V5.5. -/
theorem test_V5_durable_decode :
    [decodeTotal none, decodeTotal (some [5, 0, 0, 0, 0, 0, 0, 0]), decodeTotal (some [0, 0, 0, 0, 0, 0, 0, 1]),
        decodeTotal (some [5, 0, 0, 0])] = [0, 5, 0x0100000000000000, 0] ∧
      [some [0x01], some [0x00], some [0x02], some [0x01, 0x00], none].map decodeAssoc = [true, false, false, false, false] := by
  decide

/-- V5.8, V5.11: a due write that is answered `OK`. -/
theorem test_V5_11_durable_write :
    after (execEnterSleep2 (onAon ({ · with rain := { armedBank with durEdges := 10, total := 12 } }) (answering 0 0)))
      (fun t => t.trace == [⟨0x00080104, [12, 0, 0, 0, 0, 0, 0, 0]⟩] && t.ds == [(1, [12, 0, 0, 0, 0, 0, 0, 0])]
        && t.aon.rain.durEdges == 0 && pcCode t == 0x1B) = true := by decide

/-- V5.10: the same for wind, answered `ERR`. -/
theorem test_V5_10_durable_write_fails :
    after (execEnterSleep3 (onAon ({ · with wind := { armedBank with durEdges := 10, total := 12 } }) (answering 1 0)))
      (fun t => t.trace == [⟨0x00080204, [12, 0, 0, 0, 0, 0, 0, 0]⟩] && t.ds == [] && t.aon.wind.durEdges == 10
        && pcCode t == 0x23) = true := by decide

/-- R136: the words of the four rules. -/
theorem test_combo_words : ([1, 2, 3, 4] : List (BitVec 3)).map (fun k => (comboOf k).word) = [0x8115, 0x823A, 0x830A, 0x8400] := by
  decide

/-- V6.2: a bus error is tried again, then a match decides rule 1. -/
theorem test_V6_2_probe_combined :
    after (execActiveSession2 (answering 2 0)) (fun t => pcCode t == 0x12 && t.main.tryCount == 1) = true ∧
      after (execActiveSession2 (onMain ({ · with tryCount := 1 }) (answering 0 0)))
        (fun t => pcCode t == 0x2A && t.aon.combo.word == 0x8115 && t.main.tryCount == 0) = true := by decide

/-- V6.4: the last bus error of device 2 counts as absent. -/
theorem test_V6_4_probe_second :
    after (execActiveSession3 (onMain ({ · with tryCount := 1 }) (answering 2 0)))
      (fun t => pcCode t == 0x2A && t.aon.combo.word == 0x8400) = true ∧
      after (execActiveSession3 (answering 0 0)) (fun t => pcCode t == 0x22 && !t.aon.combo.valid) = true := by decide

/-- V6.7, and program P4 step 14. -/
theorem test_V6_7_probe_pressure :
    after (execActiveSession4 (answering 0 0)) (fun t => t.aon.combo.word == 0x823A) = true ∧
      after (execActiveSession4 (answering 1 0)) (fun t => t.aon.combo.word == 0x830A && pcCode t == 0x2A) = true := by decide

/-- V6.8. -/
theorem test_V6_8_cached :
    after (execActiveSession1 (onAon ({ · with combo := comboOf 3 }) State.reset)) (fun t => pcCode t == 0x2A) = true ∧
      after (execActiveSession1 State.reset) (fun t => pcCode t == 0x12) = true := by decide

/-- V6.10, V6.11. -/
theorem test_V6_11_read_temperature :
    after (execActiveSession8 (onMain ({ · with tryCount := 1 }) (onAon ({ · with combo := comboOf 3 }) (answering 1 0))))
      (fun t => t.main.svalT == 0x7FFF && pcCode t == 0x4A && t.trace == [⟨0x00000206, []⟩]) = true ∧
      after (execActiveSession8 (onAon ({ · with combo := comboOf 3 }) (answering 0 2150)))
        (fun t => t.main.svalT == 2150) = true := by decide

/-- P4 step 19. -/
theorem test_P4_19_read_humidity :
    after (execActiveSession9 (onAon ({ · with combo := comboOf 3 }) (answering 0 4500)))
      (fun t => t.main.svalH == 4500 && t.trace == [⟨0x00010206, []⟩] && pcCode t == 0x52) = true := by decide

/-- V6.12: no provider, no request. -/
theorem test_V6_12_sentinel :
    after (execActiveSession10 (onAon ({ · with combo := comboOf 3 }) (answering 0 7)))
      (fun t => t.main.svalP == 101325 && t.trace == [] && pcCode t == 0x5A) = true := by decide

/-- The table of section 8. -/
theorem test_percentages :
    ([2000, 2700, 2701, 2707, 2708, 2723, 3450, 3700, 4192, 4193, 4199, 4200, 5000] : List Word).map (pct Config.launchCfg) =
      [0, 0, 0, 0, 1, 2, 50, 67, 99, 100, 100, 100, 100] := by decide

/-- V7.4, V7.5. -/
theorem test_V7_battery :
    after (execActiveSession7 (onAon ({ · with time := 5000, battMv := 3700, battPct := 67 }) (answering 1 0)))
      (fun t => t.aon.lastBatt == 5000 && t.aon.lbtValid && t.aon.battMv == 3700 && !t.main.battNew) = true ∧
      after (execActiveSession7 (onAon ({ · with time := 100 }) (answering 0 3700)))
        (fun t => battStatusWord t.aon t.main == 0x00000743 && t.aon.battAt == 100 && t.trace == [⟨0x00000007, []⟩]) = true := by
  decide

/-- V7.2, V7.3: one tick before the interval, and at it. -/
theorem test_V7_2_battery_gate :
    battDue (onAon ({ · with lbtValid := true, lastBatt := 100, time := 3600099 }) State.reset) = false ∧
      battDue (onAon ({ · with lbtValid := true, lastBatt := 100, time := 3600100 }) State.reset) = true := by decide

/-! ## Wake sources (vectors of section 9) -/

/-- V8.1. -/
theorem test_V8_1_priority :
    ([0xF, 0x7, 0x6, 0x4, 0x9] : List (BitVec 4)).map (fun m => (pri m).code) = [3, 0, 1, 2, 3] := by decide

/-- V8.2. -/
theorem test_V8_2_dispatch :
    after (execWake0 (onAon ({ · with wakePend := 7, wakeArm := 15, wakeCause := 3 }) State.reset))
      (fun t => t.aon.wakeCause == 0 && t.aon.wakePend == 6 && pcCode t == 0x02) = true := by decide

/-- V9.16, and the fast path. -/
theorem test_V9_16_wind_edge_dispatch :
    after (execWake0 (onAon ({ · with wakePend := 4, wakeArm := 15 }) State.reset)) (fun t => pcCode t == 0x02) = true ∧
      after (execWake0 { onAon ({ · with wakePend := 4, wakeArm := 15 }) State.reset with assocValid := true })
        (fun t => pcCode t == 0x15 && t.aon.wakeCause == 2) = true := by decide

/-- V8.3: a latch that is not armed ends no suspension. -/
theorem test_V8_3_unarmed_latch :
    after (execSleeping0 (onAon ({ · with asleep := true, wakePend := 6, wakeArm := 1 }) State.reset)) (fun t => t.aon.asleep) = true := by
  decide

/-- V8.4, V8.5. -/
theorem test_V8_4_timer :
    after (execEvtTick false (onAon ({ · with timerRun := true, deadline := 60100, time := 60099 }) State.reset))
      (fun t => t.aon.time == 60100 && t.aon.wakePend == 1 && !t.aon.timerRun) = true ∧
      after (execEvtTick true (onAon ({ · with deadline := 10, time := 50 }) State.reset))
        (fun t => t.aon.time == 51 && t.aon.wakePend == 0) = true := by decide

/-- V8.6. -/
theorem test_V8_6_button :
    after (execEvtInBtn true (onAon ({ · with bsync := ⟨true, false, false⟩, time := 1000 }) State.reset))
      (fun t => t.aon.btnPress == 1000 && t.aon.wakePend == 8) = true := by decide

/-- V8.7. -/
theorem test_V8_7_factory_command :
    after (execEvtInFactory false (onAon ({ · with fsync := ⟨true, false, false⟩ }) State.reset))
      (fun t => t.aon.frstPend && t.aon.wakePend == 0) = true := by decide

theorem test_radio_levels :
    after (execEvtInAssoc true State.reset) (fun t => t.assocValid && !t.radioIdle) = true ∧
      after (execEvtInIdle true State.reset) (fun t => t.radioIdle && !t.assocValid) = true := by decide

/-! ## The controller (vectors of section 10, programs P4 to P7) -/

/-- P4 steps 1 to 3, with a stored rain total. -/
theorem test_boot_loads :
    after (execBoot0 { answering 0 0 with ds := [(1, [5, 0, 0, 0, 0, 0, 0, 0])] })
      (fun t => t.aon.rain.total == 5 && t.trace == [⟨0x00000103, []⟩] && pcCode t == 0x08) = true ∧
      after (execBoot1 (answering 0 0)) (fun t => t.aon.wind.total == 0 && t.trace == [⟨0x00000203, []⟩] && pcCode t == 0x10) = true ∧
      after (execBoot2 { answering 0 0 with ds := [(0x10, [1])] })
        (fun t => t.main.assocStored && t.trace == [⟨0x00001003, []⟩] && pcCode t == 0x18) = true := by decide

/-- V9.3: a boot that is not cold loads nothing. -/
theorem test_V9_3_warm_boot :
    after (execBoot0 (onAon ({ · with wakeCause := 0 }) State.reset)) (fun t => pcCode t == 0x18 && t.trace == []) = true := by decide

/-- V9.20, and P4 step 4. -/
theorem test_V9_20_boot_dispatch :
    after (execBoot3 (onMain ({ · with assocStored := true }) State.reset)) (fun t => pcCode t == 0x02 && t.aon.wind.armed) = true ∧
      after (execBoot3 State.reset) (fun t => pcCode t == 0x01 && t.main.joinTry == 0) = true := by decide

/-- V9.10: the second and the third failure. -/
theorem test_V9_10_join_failures :
    after (execJoin0 (onMain ({ · with joinTry := 1 }) (onAon ({ · with time := 100 }) (answering 1 0))))
      (fun t => t.main.joinTry == 2 && t.main.waitUntil == 300 && pcCode t == 0x09) = true ∧
      after (execJoin0 (onMain ({ · with joinTry := 2 }) (onAon ({ · with time := 300 }) (answering 1 0))))
        (fun t => t.main.joinTry == 3 && t.aon.joinPending && t.main.longSleep && pcCode t == 0x03) = true := by decide

/-- P4 step 6: the wait ends at `WAIT_UNTIL`. -/
theorem test_P4_6_backoff :
    after (execJoin1 (onMain ({ · with waitUntil := 100, state := 1, substep := 1 }) (onAon ({ · with time := 99 }) State.reset)))
      (fun t => pcCode t == 0x09) = true ∧
      after (execJoin1 (onMain ({ · with waitUntil := 100 }) (onAon ({ · with time := 100 }) State.reset)))
        (fun t => pcCode t == 0x01) = true := by decide

/-- V9.11. -/
theorem test_V9_11_backoff_caps :
    [backoff { Config.launchCfg with joinBackoff := 0x80000000 } 1, backoff { Config.launchCfg with joinBackoff := 0x80000000 } 2] =
      [0x80000000, 0xFFFFFFFF] := by decide

/-- V9.12. -/
theorem test_V9_12_join_success :
    after (execJoin2 (answering 0 0))
      (fun t => t.trace == [⟨0x00011004, [1]⟩] && t.ds == [(0x10, [1])] && t.main.assocStored && pcCode t == 0x02) = true := by decide

/-- P4 step 9: the button's latch is kept. -/
theorem test_session_start :
    after (execActiveSession0 (onAon ({ · with wakePend := 15, time := 100 }) State.reset))
      (fun t => t.aon.wakePend == 8 && t.main.sessionStart == 100 && t.main.fullPath && pcCode t == 0x0A) = true := by decide

/-- P6 steps 5 and 6. -/
theorem test_session_flushes :
    after (execActiveSession5 (onAon ({ · with rain := { armedBank with pending := 2 } }) State.reset))
      (fun t => t.aon.rain.total == 2 && t.main.res.r0 == 0 && pcCode t == 0x32) = true ∧
      after (execActiveSession6 (onAon ({ · with wind := { armedBank with winCount := 30 }, time := 10000 }) State.reset))
        (fun t => t.aon.wind.lastRate == 2001 && pcCode t == 0x3A) = true := by decide

/-- R219, R220: a total is reported and acknowledged only when it is owed. -/
theorem test_total_reports :
    after (execActiveSession11 (onAon ({ · with rain := { armedBank with reportReq := true, total := 3, sinceRpt := 3 } }) State.reset))
      (fun t => t.trace == [⟨0x00000002, [3, 0, 0, 0, 0, 0, 0, 0]⟩] && !t.aon.rain.reportReq && t.aon.rain.total == 3) = true ∧
      after (execActiveSession12 (onAon ({ · with wind := { armedBank with reportReq := true, total := 4 } }) State.reset))
        (fun t => t.trace == [⟨0x00000102, [4, 0, 0, 0, 0, 0, 0, 0]⟩] && pcCode t == 0x6A) = true := by decide

/-- P4 steps 23 to 26. -/
theorem test_value_reports :
    after (execActiveSession13 State.reset) (fun t => t.trace.map (·.hdr) == [0x00000202] && pcCode t == 0x72) = true ∧
      after (execActiveSession14 (onMain ({ · with svalT := 2150 }) State.reset))
        (fun t => t.trace == [⟨0x00000302, [0x66, 0x08, 0, 0, 0, 0, 0, 0]⟩] && pcCode t == 0x7A) = true ∧
      after (execActiveSession15 State.reset) (fun t => t.trace.map (·.hdr) == [0x00000402] && pcCode t == 0x82) = true ∧
      after (execActiveSession16 State.reset) (fun t => t.trace.map (·.hdr) == [0x00000502] && pcCode t == 0x8A) = true := by decide

/-- P4 steps 27 and 28, P6 steps 17 and 18. -/
theorem test_battery_reports :
    after (execActiveSession17 (onMain ({ · with battNew := true }) (onAon ({ · with battMv := 3700 }) State.reset)))
      (fun t => t.trace == [⟨0x00000602, [0x74, 0x0E, 0, 0, 0, 0, 0, 0]⟩] && pcCode t == 0x92) = true ∧
      after (execActiveSession18 State.reset) (fun t => t.trace == [] && pcCode t == 0x9A) = true := by decide

/-- V9.13: one tick before the timeout, and at it. -/
theorem test_V9_13_radio_wait :
    after (execActiveSession19 (onMain ({ · with sessionStart := 100, state := 2, substep := 19 }) (onAon ({ · with time := 5099 }) State.reset)))
      (fun t => pcCode t == 0x9A) = true ∧
      after (execActiveSession19 (onMain ({ · with sessionStart := 100 }) (onAon ({ · with time := 5100 }) State.reset)))
        (fun t => pcCode t == 0x03) = true := by decide

/-- V9.18. -/
theorem test_V9_18_gates :
    after (execEnterSleep0 { State.reset with cfg := { Config.launchCfg with gatePins := [5, 7] } })
      (fun t => t.trace == [⟨0x00000509, []⟩, ⟨0x00000709, []⟩] && pcCode t == 0x0B) = true := by decide

/-- V9.17. -/
theorem test_V9_17_factory_check :
    after (execEnterSleep1 (onAon ({ · with frstPend := true }) State.reset)) (fun t => pcCode t == 0x06) = true ∧
      after (execEnterSleep1 State.reset) (fun t => pcCode t == 0x13) = true := by decide

/-- V9.1, V9.6. -/
theorem test_V9_1_plan :
    after (execEnterSleep4 { onAon ({ · with time := 100 }) State.reset with assocValid := true })
      (fun t => t.main.sleepPlanWord == 0x1F && t.aon.deadline == 60100 && t.aon.timerRun && t.main.sleepDur == 60000) = true ∧
      after (execEnterSleep4 (onMain ({ · with longSleep := true })
          (onAon ({ · with timerRun := true, deadline := 60100, time := 500 }) State.reset)))
        (fun t => t.main.sleepPlanWord == 0x01 && t.aon.deadline == 300500 && t.main.sleepDur == 300000 && !t.main.longSleep) = true := by
  decide

/-- P4 step 35, V9.9. -/
theorem test_V9_9_arming :
    after (execEnterSleep5 (onMain ({ · with planArm := 15, planRetain := true, sleepDur := 60000 }) (answering 0 0)))
      (fun t => t.trace == [⟨0x00000F08, [0x60, 0xEA, 0, 0]⟩] && t.aon.wakeArm == 15 && pcCode t == 0x3B) = true ∧
      after (execEnterSleep5 (onMain ({ · with planArm := 1 }) (onAon ({ · with time := 1000 }) (answering 1 0))))
        (fun t => t.main.waitUntil == 1050 && t.aon.wakeArm == 0 && pcCode t == 0x33
          && t.trace.map (·.hdr) == [0x00010108]) = true := by decide

/-- V9.9: the retry. -/
theorem test_V9_9_retry :
    after (execEnterSleep6 (onMain ({ · with waitUntil := 1050 }) (onAon ({ · with time := 1050 }) State.reset)))
      (fun t => pcCode t == 0x23) = true ∧
      after (execEnterSleep6 (onMain ({ · with waitUntil := 1050, state := 3, substep := 6 }) (onAon ({ · with time := 1049 }) State.reset)))
        (fun t => pcCode t == 0x33) = true := by decide

/-- V9.3, V9.7. -/
theorem test_V9_7_race_check :
    after (execEnterSleep7 (onAon ({ · with wakePend := 2, wakeArm := 15 }) State.reset))
      (fun t => pcCode t == 0x05 && t.trace == [] && !t.aon.asleep) = true ∧
      after (execEnterSleep7 (onAon ({ · with wakeArm := 1 }) State.reset))
        (fun t => t.trace == [⟨0x0000010A, []⟩] && t.aon.asleep && t.aon.lastVariant && t.aon.joinPending && pcCode t == 0x04) = true := by
  decide

/-- V9.3: a DEEP wake resets MAIN and keeps AON. -/
theorem test_V9_3_deep_wake :
    after (execSleeping0 (onAon ({ · with wakePend := 1, wakeArm := 1, deadline := 9 }) (onMain ({ · with svalT := 5 }) deepState)))
      (fun t => t.main == Main.cold && t.aon.wakeCause == 0 && t.aon.wakePend == 0 && t.aon.deadline == 9 && !t.aon.asleep) = true := by
  decide

/-- V9.14, V9.15. -/
theorem test_V9_14_button_hold :
    after (execWake1 (onAon ({ · with btnPress := 60200, time := 65200, bsync := ⟨true, true, true⟩ }) State.reset))
      (fun t => pcCode t == 0x06) = true ∧
      after (execWake1 (onAon ({ · with btnPress := 60200, time := 61000 }) State.reset)) (fun t => pcCode t == 0x02) = true := by decide

/-- P5 steps 3 and 4. -/
theorem test_P5_fast_path :
    after (execWake2 (onAon ({ · with rain := { armedBank with pending := 1 }, wakeCause := 1 }) State.reset))
      (fun t => t.aon.rain.total == 1 && pcCode t == 0x1D) = true ∧
      after (execWake3 (onAon ({ · with wind := { armedBank with reportReq := true }, wakeCause := 2 }) State.reset))
        (fun t => t.trace.map (·.hdr) == [0x00000102] && !t.aon.wind.reportReq && pcCode t == 0x03) = true := by decide

/-- P7 steps 4 to 6. -/
theorem test_P7_factory_reset :
    after (execFactoryReset0 (answering 0 0)) (fun t => t.trace == [⟨0x00011004, [0]⟩] && t.ds == [(0x10, [0])]) = true ∧
      after (execFactoryReset1 (onAon ({ · with rain := { armedBank with total := 1, pending := 2, auxSat := true }, time := 65200 }) (answering 1 0)))
        (fun t => t.aon.rain.total == 0 && t.aon.rain.pending == 0 && t.aon.rain.winStart == 65200 && t.aon.rain.auxSat && t.ds == []) = true ∧
      after (execFactoryReset2 (answering 0 0)) (fun t => t.trace.map (·.hdr) == [0x00080204] && pcCode t == 0x1E) = true := by decide

/-- P7 step 7. -/
theorem test_P7_restart :
    after (execFactoryReset3 (onAon ({ · with frstPend := true, wakePend := 15, combo := comboOf 3 }) (onMain ({ · with svalT := 5 }) State.reset)))
      (fun t => !t.aon.frstPend && t.aon.joinPending && t.aon.wakePend == 7 && t.aon.combo.word == 0x830A && t.main == Main.cold) = true := by
  decide

/-- V9.19: a `POR` keeps the store. -/
theorem test_V9_19_por :
    after (execEvtPor true { onAon ({ · with time := 7, combo := comboOf 3, fsmEn := false }) State.reset with ds := [(1, [1])] })
      (fun t => t.aon.wakeCause == 4 && t.aon.time == 0 && t.aon.combo.word == 0 && t.aon.pscCtrlWord == 1 && t.ds == [(1, [1])]) = true := by
  decide

/-! ## Requests -/

/-- R260: emitted with its arguments, answered. -/
theorem test_requests_answered :
    after (execReqJoin 0 0 (answering 1 0)) (fun t => t.trace == [⟨1, []⟩] && t.rsp == some ⟨1, 0, []⟩) = true ∧
      after (execReqProbe 3 0 (answering 2 0)) (fun t => t.trace == [⟨0x00000305, []⟩]) = true ∧
      after (execReqSensorRead 2 1 (answering 0 9)) (fun t => t.trace == [⟨0x00010206, []⟩] && t.rsp == some ⟨0, 9, []⟩) = true ∧
      after (execReqBattSample 0 0 (answering 0 3700)) (fun t => t.trace == [⟨0x00000007, []⟩]) = true ∧
      after (execReqWakeCfg 15 0 60000 (answering 0 0)) (fun t => t.trace == [⟨0x00000F08, [0x60, 0xEA, 0, 0]⟩]) = true := by decide

theorem test_requests_fire_and_forget :
    after (execReqReport 3 0 2150 State.reset) (fun t => t.trace == [⟨0x00000302, [0x66, 0x08, 0, 0, 0, 0, 0, 0]⟩]) = true ∧
      after (execReqSetLevel 5 0 State.reset) (fun t => t.trace == [⟨0x00000509, []⟩]) = true ∧
      after (execReqSleepReq 1 0 State.reset) (fun t => t.trace == [⟨0x0000010A, []⟩]) = true := by decide

/-- R263, R264. -/
theorem test_requests_store :
    after (execReqStoreSet 0x10 1 [1] (answering 0 0)) (fun t => t.ds == [(0x10, [1])] && t.trace == [⟨0x00011004, [1]⟩]) = true ∧
      after (execReqStoreGet 0x10 0 { answering 0 0 with ds := [(0x10, [1])] }) (fun t => t.rsp == some ⟨0, 0, [1]⟩) = true ∧
      after (execReqStoreGet 0x01 0 (answering 0 0)) (fun t => t.rsp == some ⟨1, 0, []⟩) = true := by decide

/-! ## The cycle (R89, R351) -/

/-- R351: the FSM of a cycle uses the `FSM_EN` of its start, whatever the bus writes in it. -/
theorem test_fsm_uses_old_enable :
    after (Sys2Proof.core.run 5 (State.launch Config.launchCfg []
        [{ por := false, tick := false, rain := false, wind := false, btn := false, factory := false, assoc := false, idle := false, bus := some ⟨true, 0x134, 4, 0⟩, ans := ⟨true, 0, 0⟩ }]))
      (fun t => !t.aon.fsmEn && pcCode t == 0x08) = true := by decide

/-- R240, C12: a `PSC_CTRL` write of 0 in the cycle of a DEEP `ENTER_SLEEP.7` does not outlast the suspension (log 20); in a LIGHT one it does. -/
theorem test_enable_is_on_in_deep :
    after (Sys2Proof.core.run 2 { onMain ({ · with state := 3, substep := 7 }) State.reset with agenda := [.bus ⟨true, 0x134, 4, 0⟩, .fsm] })
      (fun t => deepAsleep t && t.aon.fsmEn) = true ∧
    after (Sys2Proof.core.run 2
        { onMain ({ · with state := 3, substep := 7, planRetain := true }) State.reset with agenda := [.bus ⟨true, 0x134, 4, 0⟩, .fsm] })
      (fun t => t.aon.asleep && !deepAsleep t && !t.aon.fsmEn) = true := by decide

/-- R247, R201, R202: a restart with `WAKE_CAUSE = COLD_RESET` loads what the store holds, a total whose clearing failed too (log 29). -/
theorem test_failed_clear_is_loaded_at_restart :
    after (execFactoryReset1 { answering 1 0 with ds := [(0x01, le64 5)] }) (fun t =>
      t.aon.rain.total == 0 && after (execBoot0 t) (fun u => u.aon.rain.total == 5)) = true := by decide

/-! ## Witnesses: states that meet the hypotheses of the statements -/

/-- About to run `ENTER_SLEEP.5` with the timer planned and counting. -/
def planned : State := onAon ({ · with timerRun := true, deadline := 60000 })
  (onMain ({ · with state := 3, substep := 5, planArm := 1 }) { answering 0 0 with agenda := [.fsm] })

theorem witness_StepRunsDecodedInstruction :
    cfgValid planned.cfg = true ∧ planned.agenda = .fsm :: [] ∧ fetch .fsm { planned with agenda := [] } = .ok .enterSleep5 :=
  ⟨by decide, rfl, rfl⟩

theorem witness_ClockEdgeLaysOutCycle : cfgValid State.reset.cfg = true ∧ State.reset.agenda = [] := by decide

theorem witness_EncodeDecodeRoundTrip : WellFormed (.reqStoreSet 0x10 1 [1]) ∧ WellFormed (.reqReport 7 0 0) ∧ WellFormed (.busRd 0xFFC 4) := by
  decide

theorem witness_DecodeEncodeWords :
    decodeCmd 0x00000106 = .ok (.ackReport .wind) ∧ decodeEvt 0x00000108 = .ok (.evtPor true) ∧
      decodeFsm 0x9A = .ok .activeSession19 := by decide

theorem witness_LaunchIsLegal : cfgValid Config.launchCfg = true ∧ Store.wf [(0x10, [1]), (0xFF, [])] = true := by decide

theorem witness_LegalKeptByStep : Legal planned ∧ ∃ t, step planned = .next t :=
  ⟨by unfold Legal; decide, _, rfl⟩

theorem witness_LegalKeptByStep_deep : Legal { deepState with agenda := [.fsm] } ∧ ∃ t, step { deepState with agenda := [.fsm] } = .next t :=
  ⟨by unfold Legal; decide, _, rfl⟩

theorem witness_LegalNeverStops : Legal planned := by unfold Legal; decide

/-- At `ENTER_SLEEP.5`, where the plan is about to be armed, the timer counting or fired. -/
theorem witness_WakeGuaranteeKept :
    pcCode planned = 0x2B ∧ WakeGuaranteed planned ∧
      WakeGuaranteed (onAon ({ · with timerRun := false, wakePend := 1 }) planned) ∧ ∃ t, step planned = .next t :=
  ⟨by decide, by unfold WakeGuaranteed timerHolds; decide, by unfold WakeGuaranteed timerHolds; decide, _, rfl⟩

/-- Suspended in DEEP with the timer armed: one tick before the deadline; and fired, at a clock edge before a quiet cycle. -/
theorem witness_WakeGuaranteeKept_suspended :
    let s := onAon ({ · with wakeArm := 1, timerRun := true, time := 99, deadline := 100 }) (onMain ({ · with state := 4 }) deepState)
    let u := { onAon ({ · with wakePend := 1, timerRun := false }) s with inq := [quietCycle] }
    WakeGuaranteed s ∧ s.aon.asleep = true ∧ s.aon.deadline.toNat ≤ (s.aon.time.toNat + 1) % 2 ^ 64 ∧
      WakeGuaranteed u ∧ u.aon.asleep = true ∧ u.aon.wakePend.getLsbD 0 = true ∧ cfgValid u.cfg = true ∧ u.agenda = [] ∧
      u.aon.fsmEn = true ∧ (u.inq.headD (Config.freeCycle u.cycle)).por = false :=
  ⟨by unfold WakeGuaranteed timerHolds; decide, rfl, by decide, by unfold WakeGuaranteed timerHolds; decide, rfl, by decide, by decide,
    rfl, rfl, rfl⟩

/-- With rule 3 decided, at the cache check. -/
theorem witness_ComboChangesOnlyAtPor :
    let s := onAon ({ · with combo := comboOf 3 }) (onMain ({ · with state := 2, substep := 1 }) { State.reset with agenda := [.fsm] })
    IdentifiesOnce s ∧ s.aon.combo.valid = true ∧ ∃ t, step s = .next t :=
  ⟨by unfold IdentifiesOnce; decide, by decide, _, rfl⟩

/-- One failure below the bound, at `JOIN.0`. -/
theorem witness_JoinAttemptsBounded :
    let s := onMain ({ · with state := 1, joinTry := 2 }) { answering 1 0 with agenda := [.fsm] }
    JoinBounded s ∧ ∃ t, step s = .next t :=
  ⟨by unfold JoinBounded; decide, _, rfl⟩

theorem witness_IssuedRequestsAreLegal :
    noLooseRequest planned = true ∧ planned.trace.all requestLegal = true ∧ ∃ t, step planned = .next t :=
  ⟨by decide, by decide, _, rfl⟩

/-- `RESET_TO` with argument 0 lowers a total of 7. -/
theorem witness_TotalsFallOnlyByReset :
    let s := onAon ({ · with rain := { armedBank with total := 7 } }) manual
    ∃ t, exec (.resetTo .rain) s = .next t ∧ (t.acc .rain).total.toNat < (s.acc .rain).total.toNat :=
  ⟨_, rfl, by decide⟩

theorem witness_ConfigurationAndOtherKeysUntouched :
    (∃ t, exec .join2 (answering 0 0) = .next t) ∧ (∀ a b bytes, Instr.join2 ≠ .reqStoreSet a b bytes) ∧
      (0x00 ≠ 0x01 ∧ 0x00 ≠ 0x02 ∧ 0x00 ≠ 0x10) :=
  ⟨⟨_, rfl⟩, fun _ _ _ => nofun, by decide⟩

/-- The new `TIME` exactly at the deadline, one tick before it, and a timer that is not running. -/
theorem witness_TickAdvancesTimeAndFiresTimer :
    let fires (s : State) : Prop := s.aon.timerRun = true ∧ s.aon.deadline.toNat ≤ (s.aon.time.toNat + 1) % 2 ^ 64
    fires (onAon ({ · with timerRun := true, deadline := 100, time := 99 }) State.reset) ∧
      ¬fires (onAon ({ · with timerRun := true, deadline := 101, time := 99 }) State.reset) ∧ ¬fires State.reset := by decide

theorem witness_ButtonFactoryAndRadioInputs :
    let s := onAon ({ · with bsync := ⟨true, false, false⟩, fsync := ⟨true, false, true⟩ }) State.reset
    let u := onAon ({ · with bsync := ⟨true, true, false⟩, fsync := ⟨false, false, false⟩ }) State.reset
    (s.aon.bsync.s1 = true ∧ s.aon.bsync.s2 = false) ∧ (s.aon.fsync.s1 = true ∧ s.aon.fsync.s2 = false) ∧
      ¬(u.aon.bsync.s1 = true ∧ u.aon.bsync.s2 = false) ∧ ¬(u.aon.fsync.s1 = true ∧ u.aon.fsync.s2 = false) := by decide

theorem witness_PlainCommandResults : manual.cycEn = false := rfl
theorem witness_FlushSwapsAndMerges : manual.cycEn = false := rfl
/-- No edge; an edge just inside the window (discarded) and at its end (accepted); a count that is lost at `MAX_32`. -/
theorem witness_SampledEdgeIsCountedOnce :
    let edge (a : AccBank) : Bool := a.sync.s1 && !a.sync.s2
    let a := { risingBank with leValid := true, lastEdge := 1000 }
    edge armedBank = false ∧ edge a = true ∧ a.armed = true ∧ Nat.blt ((1199 : DWord) - a.lastEdge).toNat (200 : Word).toNat = true ∧
      Nat.ble (200 : Word).toNat ((1200 : DWord) - a.lastEdge).toNat = true ∧ a.pending ≠ 0xFFFFFFFF ∧
      { a with pending := 0xFFFFFFFF }.pending = 0xFFFFFFFF ∧ risingBank.leValid = false := by decide

/-- A window without an elapsed tick, and one with ticks. -/
theorem witness_SessionFlushesBothChannels :
    State.reset.aon.time - State.reset.aon.wind.winStart = 0 ∧
      (onAon ({ · with time := 1 }) State.reset).aon.time - State.reset.aon.wind.winStart ≠ 0 := by decide

theorem witness_SampleRateComputesRate : manual.cycEn = false := rfl

theorem witness_CommandsRejectedInAutonomousMode : formatOf (.resetTo .wind) = .cmd ∧ State.reset.cycEn = true := by decide

/-- Outside a DEEP suspension: awake, in a LIGHT one, and each of the four cases of the word at its boundary. -/
theorem witness_CommandWordCheckedInOrder :
    ¬(State.reset.aon.asleep = true ∧ State.reset.aon.lastVariant = true) ∧
      (let s := onAon ({ · with asleep := true }) manual
       ¬(s.aon.asleep = true ∧ s.aon.lastVariant = true)) ∧
      (0x00000200 : Word) >>> 9 ≠ 0 ∧ (0x000001FF : Word) >>> 9 = 0 ∧ 0x06 < ((0x00000107 : Word).setWidth 8).toNat ∧
      ¬0x06 < ((0x00000106 : Word).setWidth 8).toNat ∧ State.reset.cycEn = true ∧ manual.cycEn = false := by decide

theorem witness_SecondFlushReturnsZero : manual.cycEn = false ∧ ∃ t, exec (.flush .rain) manual = .next t := ⟨rfl, _, rfl⟩

/-- A first rain edge, and a wind edge exactly at the end of a window of 0 ticks. -/
theorem witness_EdgeInFlushCycleStaysPending :
    let s := { onAon ({ · with rain := { risingBank with pending := 3 } }) manual with agenda := [.cmd 0x00000002, .evt 0x102] }
    let u := { onAon ({ · with wind := { risingBank with leValid := true, pending := 3 } }) manual with
      agenda := [.cmd 0x00000102, .evt 0x003] }
    cfgValid s.cfg = true ∧ s.cycEn = false ∧ (s.acc .rain).armed = true ∧ (s.acc .rain).leValid = false ∧
      (s.acc .rain).sync.s1 = true ∧ (s.acc .rain).sync.s2 = false ∧ cfgValid u.cfg = true ∧ u.cycEn = false ∧
      (u.acc .wind).armed = true ∧ (u.acc .wind).leValid = true ∧
      (refractOf u.cfg .wind).toNat ≤ (u.aon.time - (u.acc .wind).lastEdge).toNat ∧
      (u.acc .wind).sync.s1 = true ∧ (u.acc .wind).sync.s2 = false :=
  ⟨by decide, rfl, rfl, rfl, rfl, rfl, by decide, rfl, rfl, rfl, by decide, rfl, rfl⟩

theorem witness_FlushConservesCount :
    let s := onAon ({ · with rain := { armedBank with pending := 3, total := 10 } }) manual
    ∃ t, exec (.flush .rain) s = .next t ∧ (t.acc .rain).totalSat = false := ⟨_, rfl, by decide⟩

theorem witness_AnsweredRequestsComplete : (answering 0 0).ans.ready = true := rfl

theorem witness_StoreSetReplacesKeyWhenOk :
    ([1] : List Byte).length = (1 : Byte).toNat ∧ (answering 0 0).ans.ready = true ∧ (answering 0 0).ans.status = 0 ∧
      (answering 1 0).ans.status ≠ 0 := by decide

theorem witness_UnansweredRequestsWait : State.reset.ans.ready = false ∧ State.reset.aon.wakeCause = 4 := ⟨rfl, rfl⟩

theorem witness_StoreGetSeesLastStoreSet :
    ([7, 8] : List Byte).length = (2 : Byte).toNat ∧ (answering 0 0).ans.ready = true ∧ (answering 0 0).ans.status = 0 ∧
      ∃ t u, exec (.reqStoreSet 0xFF 2 [7, 8]) (answering 0 0) = .next t ∧ exec (.reqStoreGet 0xFF 0) t = .next u :=
  ⟨by decide, rfl, rfl, _, _, rfl, rfl⟩

/-- The first and the last word of the map, a low word among them. -/
theorem witness_LegalReadReturnsRegister :
    ((0x000 : BitVec 12).toNat, Reg.lo (.total .rain)) ∈ regMap ∧ ((0x23C : BitVec 12).toNat, Reg.cfgReserved) ∈ regMap ∧
      (∀ x, Reg.cfgReserved ≠ .lo x) ∧ ¬(State.reset.aon.asleep = true ∧ State.reset.aon.lastVariant = true) :=
  ⟨by decide, by decide, fun _ => nofun, by decide⟩

theorem witness_RegisterWordsRead : ¬(State.reset.aon.asleep = true ∧ State.reset.aon.lastVariant = true) := by decide
theorem witness_WideRegisterWordsRead : ¬(State.reset.aon.asleep = true ∧ State.reset.aon.lastVariant = true) := by decide

/-- `TOTAL_LO`, then `TIME_HI`. -/
theorem witness_PairedReadIsSnapshot :
    ((0x000 : BitVec 12).toNat, Reg.lo (.total .rain)) ∈ regMap ∧ ((0x12C : BitVec 12).toNat, Reg.hi .time) ∈ regMap ∧
      ¬(State.reset.aon.asleep = true ∧ State.reset.aon.lastVariant = true) ∧
      ∃ t v, exec (.busRd 0x000 4) State.reset = .next t ∧ exec (.busRd 0x12C 4) t = .next v :=
  ⟨by decide, by decide, by decide, _, _, rfl, rfl⟩

/-- One of the grounds of `IllegalAccessRaisesBusError`, as a Bool. -/
def illegalAccess (s : State) (addr : BitVec 12) (size : BitVec 3) : Bool :=
  size != 4 || addr.toNat % 4 != 0 || (s.aon.asleep && s.aon.lastVariant) ||
    (Nat.ble 0x080 addr.toNat && Nat.ble addr.toNat 0x0FC) || (Nat.ble 0x1A8 addr.toNat && Nat.ble addr.toNat 0x1FC) ||
    Nat.ble 0x240 addr.toNat

/-- The hypothesis of `IllegalAccessRaisesBusError` is `illegalAccess`. -/
theorem illegalAccess_iff (s : State) (addr : BitVec 12) (size : BitVec 3) : illegalAccess s addr size = true ↔
    (size ≠ 4 ∨ addr.toNat % 4 ≠ 0 ∨ (s.aon.asleep = true ∧ s.aon.lastVariant = true) ∨
      (0x080 ≤ addr.toNat ∧ addr.toNat ≤ 0x0FC) ∨ (0x1A8 ≤ addr.toNat ∧ addr.toNat ≤ 0x1FC) ∨ 0x240 ≤ addr.toNat) := by
  simp only [illegalAccess, Bool.or_eq_true, Bool.and_eq_true, Nat.ble_eq, bne_iff_ne, or_assoc]

/-- Each ground at the ends of its range: sizes 3 and 5, the lowest bits, a DEEP suspension, the three unmapped ranges. -/
theorem witness_IllegalAccessRaisesBusError :
    ([3, 5] : List (BitVec 3)).all (illegalAccess State.reset 0x000) = true ∧
      ([0x001, 0x07F, 0x080, 0x0FC, 0x1A8, 0x1FC, 0x240, 0xFFC] : List (BitVec 12)).all (illegalAccess State.reset · 4) = true ∧
      illegalAccess deepState 0x14C 4 = true ∧
      ([0x000, 0x07C, 0x100, 0x1A4, 0x200, 0x23C] : List (BitVec 12)).any (illegalAccess State.reset · 4) = false := by decide

theorem witness_WritesFollowAccessType :
    ¬(State.reset.aon.asleep = true ∧ State.reset.aon.lastVariant = true) ∧
      (∃ r, ((0x000 : BitVec 12).toNat, r) ∈ regMap) ∧ (∃ r, ((0x23C : BitVec 12).toNat, r) ∈ regMap) ∧
      (∀ addr ∈ ([0x000, 0x23C] : List (BitVec 12)),
        addr ∉ ([0x014, 0x054, 0x100, 0x104, 0x108, 0x10C, 0x134] : List (BitVec 12))) :=
  ⟨by decide, ⟨.lo (.total .rain), by decide⟩, ⟨.cfgReserved, by decide⟩, by decide⟩

theorem witness_BootLoadsStoredState :
    (onAon ({ · with wakeCause := 3 }) State.reset).aon.wakeCause ≠ 4 ∧ (answering 0 0).aon.wakeCause = 4 ∧
      (answering 0 0).ans.ready = true := by decide

theorem witness_BootArmsAndDispatches :
    let joins (s : State) : Prop := (s.aon.wakeCause = 4 ∧ s.main.assocStored = false) ∨ s.aon.joinPending = true
    joins State.reset ∧ joins (onAon ({ · with wakeCause := 0, joinPending := true }) State.reset) ∧
      ¬joins (onMain ({ · with assocStored := true }) State.reset) ∧ ¬joins (onAon ({ · with wakeCause := 3 }) State.reset) := by
  decide

/-- The first failure, the last failure and a success, with the bound 3. -/
theorem witness_JoinAttemptOutcome :
    let s := answering 1 0
    let u := onMain ({ · with joinTry := 2 }) s
    (s.ans.ready = true ∧ s.main.joinTry.toNat < s.cfg.joinAttempts.toNat ∧ s.ans.status ≠ 0 ∧
        s.main.joinTry.toNat + 1 < s.cfg.joinAttempts.toNat) ∧
      (u.ans.ready = true ∧ u.main.joinTry.toNat < u.cfg.joinAttempts.toNat ∧ u.ans.status ≠ 0 ∧
        u.main.joinTry.toNat + 1 = u.cfg.joinAttempts.toNat) ∧ (answering 0 0).ans.status = 0 := by decide

theorem witness_JoinBackoffWaits :
    let s := onMain ({ · with waitUntil := 100 }) State.reset
    (onAon ({ · with time := 100 }) s).main.waitUntil.toNat ≤ (onAon ({ · with time := 100 }) s).aon.time.toNat ∧
      (onAon ({ · with time := 99 }) s).aon.time.toNat < (onAon ({ · with time := 99 }) s).main.waitUntil.toNat := by decide

theorem witness_JoinSuccessStoresAssociation :
    (answering 0 0).ans.ready = true ∧ (answering 0 0).ans.status = 0 ∧ (answering 1 0).ans.status ≠ 0 := by decide

theorem witness_SessionStartAndCacheCheck :
    (onAon ({ · with combo := comboOf 4 }) State.reset).aon.combo.valid = true ∧ State.reset.aon.combo.valid = false := by decide

/-- Every answer, with an attempt left and with none. -/
theorem witness_ProbesDecideCombo :
    (answering 0 0).ans.ready = true ∧ (answering 1 0).ans.status = 1 ∧
      ((answering 2 0).ans.status ≠ 0 ∧ (answering 2 0).ans.status ≠ 1) ∧
      (answering 2 0).main.tryCount.toNat < (answering 2 0).cfg.probeRetries.toNat ∧
      (let s := onMain ({ · with tryCount := 1 }) (answering 2 0)
       s.cfg.probeRetries.toNat ≤ s.main.tryCount.toNat) := by decide

theorem witness_BatterySampledWhenDue :
    let s := onAon ({ · with lbtValid := true, lastBatt := 100 }) (answering 0 0)
    ¬BattDue (onAon ({ · with time := 3600099 }) s) ∧ BattDue (onAon ({ · with time := 3600100 }) s) ∧ BattDue State.reset ∧
      State.reset.ans.ready = false ∧ s.ans.ready = true ∧ s.ans.status = 0 ∧ (answering 1 0).ans.status ≠ 0 := by
  unfold BattDue; decide

/-- Both bounds and both values next to them inside. -/
theorem witness_PercentageIsMonotonic :
    let g := Config.launchCfg
    Nat.blt g.battLoMv.toNat g.battHiMv.toNat = true ∧ Nat.ble (2700 : Word).toNat g.battLoMv.toNat = true ∧
      Nat.ble g.battHiMv.toNat (4200 : Word).toNat = true ∧
      ([2701, 4199] : List Word).all (fun mv => Nat.blt g.battLoMv.toNat mv.toNat && Nat.blt mv.toNat g.battHiMv.toNat) = true ∧
      Nat.ble (2700 : Word).toNat (2701 : Word).toNat = true :=
  ⟨rfl, rfl, rfl, rfl, rfl⟩

theorem witness_SensorReadsWithRetry :
    let s := onAon ({ · with combo := comboOf 3 }) (answering 1 0)
    State.reset.aon.combo.tSrc = 0 ∧ s.aon.combo.tSrc ≠ 0 ∧ s.aon.combo.hSrc ≠ 0 ∧ s.aon.combo.pSrc = 0 ∧
      (onAon ({ · with combo := comboOf 1 }) s).aon.combo.pSrc ≠ 0 ∧
      s.ans.ready = true ∧ s.ans.status ≠ 0 ∧ (answering 0 0).ans.status = 0 ∧ State.reset.ans.ready = false ∧
      s.main.tryCount.toNat < s.cfg.probeRetries.toNat ∧
      s.cfg.probeRetries.toNat ≤ (onMain ({ · with tryCount := 1 }) s).main.tryCount.toNat := by decide

theorem witness_SessionReports :
    let s := onMain ({ · with battNew := true }) (onAon ({ · with rain := { armedBank with reportReq := true }, wind := { armedBank with reportReq := true } }) State.reset)
    s.aon.rain.reportReq = true ∧ s.aon.wind.reportReq = true ∧ s.main.battNew = true ∧ State.reset.aon.rain.reportReq = false ∧
      State.reset.aon.wind.reportReq = false ∧ State.reset.main.battNew = false := by decide

theorem witness_RadioWaitIsBounded :
    let ends (s : State) : Prop :=
      s.radioIdle = true ∨ s.cfg.activeTimeout.toNat ≤ (s.aon.time - s.main.sessionStart).toNat
    ends { State.reset with radioIdle := true } ∧ ends (onAon ({ · with time := 5000 }) State.reset) ∧
      ¬ends (onAon ({ · with time := 4999 }) State.reset) := by decide

theorem witness_GatesLowThenFactoryCheck :
    (onAon ({ · with frstPend := true }) State.reset).aon.frstPend = true ∧ State.reset.aon.frstPend = false := by decide

/-- Not due without an edge nor one below `DURABLE_N`; due at it, and in a full session with one edge. -/
theorem witness_DurableWriteWhenDue :
    let g := Config.launchCfg
    ¬PersistDue g true AccBank.cold ∧ ¬PersistDue g false { armedBank with durEdges := 9 } ∧
      PersistDue g false { armedBank with durEdges := 10 } ∧ PersistDue g true { armedBank with durEdges := 1 } ∧
      State.reset.ans.ready = false ∧ (answering 0 0).ans.ready = true ∧ (answering 0 0).ans.status = 0 ∧
      (answering 1 0).ans.status ≠ 0 := by
  unfold PersistDue; decide

/-- Restarted for want of a running timer and for a long sleep; not restarted. -/
theorem witness_SleepPlanIsBuilt :
    let restart (s : State) : Prop := s.aon.timerRun = false ∨ s.main.longSleep = true
    let s := onAon ({ · with timerRun := true }) State.reset
    restart State.reset ∧ restart (onMain ({ · with longSleep := true }) s) ∧ ¬restart s := by decide

theorem witness_ArmingOrRetry :
    (answering 0 0).ans.ready = true ∧ (answering 0 0).ans.status = 0 ∧ (answering 1 0).ans.status ≠ 0 ∧
      State.reset.main.waitUntil.toNat ≤ State.reset.aon.time.toNat ∧
      (let s := onMain ({ · with waitUntil := 1 }) State.reset
       s.aon.time.toNat < s.main.waitUntil.toNat) := by decide

theorem witness_RaceCheckThenSuspend :
    let s := onAon ({ · with wakePend := 2, wakeArm := 15 }) State.reset
    s.aon.wakePend &&& s.aon.wakeArm ≠ 0 ∧ State.reset.aon.wakePend &&& State.reset.aon.wakeArm = 0 ∧
      State.reset.main.planRetain = false ∧ (onMain ({ · with planRetain := true }) State.reset).main.planRetain = true := by decide

theorem witness_SuspensionEndsOnArmedLatch :
    let s := onAon ({ · with asleep := true, wakePend := 1, wakeArm := 1 }) State.reset
    s.aon.wakePend &&& s.aon.wakeArm ≠ 0 ∧ s.aon.lastVariant = false ∧
      (onAon ({ · with lastVariant := true }) s).aon.lastVariant = true ∧
      (onAon ({ · with wakePend := 6 }) s).aon.wakePend &&& s.aon.wakeArm = 0 := by decide

/-- One mask for each source that is served, the priority's ties among them. -/
theorem witness_WakeDispatchByPriority :
    (servedBit 0xF).1 = 0b1000 ∧ (servedBit 0x7).1 = 0b0001 ∧ (servedBit 0x6).1 = 0b0010 ∧ (servedBit 0x4).1 = 0b0100 ∧
      (let s := onAon ({ · with wakePend := 7, wakeArm := 15, joinPending := true }) { State.reset with assocValid := true }
       s.aon.wakePend &&& s.aon.wakeArm = 7 ∧ s.aon.joinPending = true ∧ s.assocValid = true) ∧
      State.reset.aon.wakePend &&& State.reset.aon.wakeArm = 0 ∧ State.reset.aon.joinPending = false ∧
      State.reset.assocValid = false := by decide

theorem witness_ButtonHoldDecides :
    let s := onAon ({ · with bsync := ⟨true, true, true⟩, btnPress := 60200 }) State.reset
    State.reset.aon.bsync.s2 = false ∧ s.aon.bsync.s2 = true ∧
      s.cfg.btnHold.toNat ≤ (65200 - s.aon.btnPress).toNat ∧ (65199 - s.aon.btnPress).toNat < s.cfg.btnHold.toNat := by decide

theorem witness_FastPathServesOneChannel :
    let s := onAon ({ · with wakeCause := 1, rain := { armedBank with reportReq := true } }) State.reset
    s.aon.wakeCause = 1 ∧ (s.acc .rain).reportReq = true ∧ State.reset.aon.wakeCause ≠ 1 ∧ (State.reset.acc .wind).reportReq = false := by
  decide

theorem witness_FactoryResetClears :
    (answering 0 0).ans.ready = true ∧ (answering 0 0).ans.status = 0 ∧ (answering 1 0).ans.status ≠ 0 := by decide

/-! ## The text of test programs (R118 to R121) -/

theorem test_line_command : readLine ['f', 'l', 'u', 's', 'h', ' ', 'W', 'i', 'n', 'd', ' ', ';', ' ', 'x'] = some (.access [wr 0x100 0x102]) := by
  decide

theorem test_line_write : readLine ['W', 'R', ' ', '0', 'x', '1', '3', '4', ',', ' ', '0'] = some (.access pseudoManual) := by decide

theorem test_line_reset_to_value :
    readLine ['R', 'E', 'S', 'E', 'T', '_', 'T', 'O', ' ', 'R', 'A', 'I', 'N', ',', ' ', '7'] =
      some (.access [wr 0x104 7, wr 0x108 0, wr 0x100 0x004]) := by decide

theorem test_line_answer :
    readLine ['P', 'R', 'O', 'B', 'E', ' ', 'C', 'O', 'M', 'B', 'I', 'N', 'E', 'D', ' ', '-', '>', ' ', 'M', 'I', 'S', 'M', 'A', 'T', 'C', 'H'] =
      some (.answer .probe [1] 1 0 []) := by decide

theorem test_line_unknown : readLine ['F', 'O', 'O'] = none := by decide

end Sys2Proof.Tests
end

section
/-! The identification of the sensors (40_sensor_id.md R130 to R138): what a probe answers, what a probe micro-step leaves for each
answer, and what a decision writes in `COMBO`. -/

open Sys2Proof Sys2Proof.Machine Sys2Proof.Claims

namespace Sys2Proof.Identification

/-! ## The probe request and its attempts (R111, R134, R265) -/

theorem reqProbe_answered {s : State} (hr : s.ans.ready = true) (dev : Byte) :
    reqProbe dev s =
      some (probeAnswer (freeResponse s), answered (requestHeader .probe dev 0) [] (freeResponse s) s) := by
  simp [reqProbe, transact_answered hr, storeEffect_of_ne, responseTo, freeResponse, answered]

theorem probeAnswer_eq_found_iff {r : Response} : probeAnswer r = .found ↔ r.status = 0 := by
  unfold probeAnswer; split_ifs <;> simp_all

theorem probeAnswer_eq_mismatch_iff {r : Response} : probeAnswer r = .mismatch ↔ r.status = 1 := by
  unfold probeAnswer; split_ifs <;> simp_all

theorem probeAnswer_eq_busErr_iff {r : Response} : probeAnswer r = .busErr ↔ r.status ≠ 0 ∧ r.status ≠ 1 := by
  unfold probeAnswer; split_ifs <;> simp_all

theorem retriesLeft_iff {s : State} : retriesLeft s = true ↔ s.main.tryCount.toNat < s.cfg.probeRetries.toNat := by
  simp [retriesLeft]

theorem retriesLeft_eq_false_iff {s : State} :
    retriesLeft s = false ↔ s.cfg.probeRetries.toNat ≤ s.main.tryCount.toNat := by simp [retriesLeft]

/-! ## The decision (R136) -/

/-- `t` is `u` after a decision: `TRY` is 0, the FSM is at `ACTIVE_SESSION.k`, and `COMBO` reads the word of the decided rule, or is
unchanged where no rule is decided yet. -/
def Decided (rule : Option Nat) (k : BitVec 5) (u t : State) : Prop :=
  ∃ combo, t = atStep 2 k { u with aon := { u.aon with combo := combo }, main := { u.main with tryCount := 0 } } ∧
    (rule = none → combo = u.aon.combo) ∧ ∀ n, rule = some n → combo.word = comboWordOfRule n

/-- A continuation of a probe step (where a match or an absence goes) makes this decision, `TRY` cleared. -/
def Decides (rule : Option Nat) (k : BitVec 5) (f : State → State) : Prop := ∀ u, Decided rule k u (f (setTry 0 u))

theorem decides_none (k : BitVec 5) : Decides none k (goto .activeSession k) :=
  fun u => ⟨u.aon.combo, rfl, fun _ => rfl, nofun⟩

theorem comboOf_word : ∀ r ∈ ([1, 2, 3, 4] : List (BitVec 3)), (comboOf r).word = comboWordOfRule r.toNat := by decide

theorem decides_rule (k : BitVec 5) (r : BitVec 3) (hr : r ∈ ([1, 2, 3, 4] : List (BitVec 3))) :
    Decides (some r.toNat) k (fun s => goto .activeSession k (setCombo r s)) :=
  fun _ => ⟨comboOf r, rfl, nofun, fun _ hn => Option.some.inj hn ▸ comboOf_word r hr⟩

/-! ## The three probes -/

/-- What a probe micro-step at substep `k` has left in `t`, once the device has answered in `s` and `u` is `s` after the request. -/
def ProbeOutcome (k : BitVec 5) (foundRule : Option Nat) (foundStep : BitVec 5) (absentRule : Option Nat) (absentStep : BitVec 5)
    (s u t : State) : Prop :=
  (s.ans.status = 0 → Decided foundRule foundStep u t) ∧
  (s.ans.status = 1 → Decided absentRule absentStep u t) ∧
  (s.ans.status ≠ 0 → s.ans.status ≠ 1 →
    (s.main.tryCount.toNat < s.cfg.probeRetries.toNat →
      t = atStep 2 k { u with main := { u.main with tryCount := s.main.tryCount + 1 } }) ∧
    (s.cfg.probeRetries.toNat ≤ s.main.tryCount.toNat → Decided absentRule absentStep u t))

/-- R131: a probe step whose two continuations decide as stated has the stated outcome; the last bus error counts as absence. -/
theorem probeStep_outcome {s : State} (hr : s.ans.ready = true) (dev : Byte) (k : BitVec 5) {found absent : State → State}
    {foundRule absentRule : Option Nat} {foundStep absentStep : BitVec 5}
    (hf : Decides foundRule foundStep found) (ha : Decides absentRule absentStep absent) :
    ∃ t, probeStep dev k found absent s = .next t ∧
      ProbeOutcome k foundRule foundStep absentRule absentStep s
        (answered (requestHeader .probe dev 0) [] (freeResponse s) s) t := by
  obtain ⟨hn, -⟩ | ⟨a, u, hreq, hcases⟩ := probeStep_cases dev k found absent s
  · simp [hr] at hn
  obtain ⟨rfl, rfl⟩ : probeAnswer (freeResponse s) = a ∧ answered (requestHeader .probe dev 0) [] (freeResponse s) s = u := by
    simpa [reqProbe_answered hr] using hreq
  rw [probeAnswer_eq_found_iff, probeAnswer_eq_mismatch_iff, probeAnswer_eq_busErr_iff, retriesLeft_iff,
    retriesLeft_eq_false_iff] at hcases
  obtain ⟨h0, hstep⟩ | ⟨h1, hstep⟩ | ⟨⟨h0, h1⟩, hleft, hstep⟩ | ⟨⟨h0, h1⟩, hnone, hstep⟩ := hcases
  · exact ⟨_, hstep, fun _ => hf _, fun h1 => absurd (h0.symm.trans h1) (by decide), fun hne => absurd h0 hne⟩
  · exact ⟨_, hstep, fun h0 => absurd (h0.symm.trans h1) (by decide), fun _ => ha _, fun _ hne => absurd h1 hne⟩
  · exact ⟨_, hstep, fun h => absurd h h0, fun h => absurd h h1,
      fun _ _ => ⟨fun _ => rfl, fun hle => absurd hleft (Nat.not_lt.2 hle)⟩⟩
  · exact ⟨_, hstep, fun h => absurd h h0, fun h => absurd h h1,
      fun _ _ => ⟨fun hlt => absurd hlt (Nat.not_lt.2 hnone), fun _ => ha _⟩⟩

/-- Settles O44: each probe step decides by its two continuations, and the outcome of a probe step is `probeStep_outcome`. -/
theorem probesDecideCombo : Obligations.ProbesDecideCombo := by
  intro s hr p hp
  simp only [List.mem_cons, List.not_mem_nil, or_false] at hp
  obtain rfl | rfl | rfl := hp
  case inl => exact probeStep_outcome hr 1 2 (decides_rule 5 1 (by decide)) (decides_none 3)
  case inr.inl => exact probeStep_outcome hr 2 3 (decides_none 4) (decides_rule 5 4 (by decide))
  case inr.inr =>
    exact probeStep_outcome hr 3 4 (decides_rule 5 2 (by decide)) (decides_rule 5 3 (by decide))

end Sys2Proof.Identification
end

section
/-! The sampled edge of an accumulator channel (41_accumulator.md R150 to R155): which samples are accepted edges, and the bank and
the wake latches a sample leaves. -/

open Sys2Proof Sys2Proof.Machine Sys2Proof.Claims

namespace Sys2Proof.EdgeSampling

/-! ## The tests of an edge (R150, R152) and its count (R154) -/

/-- R150: the test after the shift is a test of the first two flops before it. -/
theorem rising_shift_iff {y : Sync} {v : Bool} : (y.shift v).rising = true ↔ y.s1 = true ∧ y.s2 = false := by
  simp [Sync.shift, Sync.rising]

theorem accepts_iff {refract : Word} {time : DWord} {a : AccBank} :
    a.accepts refract time = true ↔ a.leValid = false ∨ refract.toNat ≤ (time - a.lastEdge).toNat := by
  simp [AccBank.accepts]

theorem toNat_eq_max32_iff {w : Word} : w.toNat = max32 ↔ w = 0xFFFFFFFF := by
  rw [← BitVec.toNat_inj]; rfl

theorem acceptEdge_of_pending_ne {a : AccBank} (h : a.pending ≠ 0xFFFFFFFF) (time : DWord) :
    a.acceptEdge time = { a with lastEdge := time, leValid := true, pending := a.pending + 1 } :=
  if_neg (toNat_eq_max32_iff.not.2 h)

theorem acceptEdge_of_pending_max {a : AccBank} (h : a.pending = 0xFFFFFFFF) (time : DWord) :
    a.acceptEdge time = { a with lastEdge := time, leValid := true, pendOvf := true } :=
  if_pos (toNat_eq_max32_iff.2 h)

/-! ## The bank and the latches after a sample -/

/-- The next sample of bank `a` shows a rising edge, and the edge is accepted. -/
def EdgeAccepted (refract : Word) (time : DWord) (a : AccBank) : Prop :=
  (a.sync.s1 = true ∧ a.sync.s2 = false) ∧ a.armed = true ∧
    (a.leValid = false ∨ refract.toNat ≤ (time - a.lastEdge).toNat)

/-- R150: bank `a` once its synchroniser has shifted in level `v`. -/
def shiftedBank (v : Bool) (a : AccBank) : AccBank := { a with sync := a.sync.shift v }

/-- The model's three tests on the shifted bank are `EdgeAccepted` of the bank before the shift. -/
theorem edgeAccepted_iff {refract : Word} {time : DWord} {v : Bool} {a : AccBank} :
    EdgeAccepted refract time a ↔ (shiftedBank v a).sync.rising = true ∧
      ((shiftedBank v a).armed && (shiftedBank v a).accepts refract time) = true := by
  simp only [EdgeAccepted, shiftedBank, rising_shift_iff, Bool.and_eq_true, accepts_iff]

theorem samples_of_not_accepted {refract : Word} {time : DWord} {a : AccBank} (h : ¬EdgeAccepted refract time a) (v : Bool)
    (latch l : BitVec 4) : Samples refract time v latch a (shiftedBank v a) l l :=
  ⟨fun _ => ⟨rfl, rfl⟩, fun hacc => absurd hacc h, fun hacc => absurd hacc h⟩

theorem samples_of_accepted {refract : Word} {time : DWord} {a : AccBank} (h : EdgeAccepted refract time a) (v : Bool)
    (latch l : BitVec 4) :
    Samples refract time v latch a ((shiftedBank v a).acceptEdge time) l (l ||| latch) :=
  ⟨fun hnot => absurd h hnot,
    fun _ hne => ⟨acceptEdge_of_pending_ne (a := shiftedBank v a) hne time, rfl⟩,
    fun _ hmax => ⟨acceptEdge_of_pending_max (a := shiftedBank v a) hmax time, rfl⟩⟩

/-! ## The sample of a channel in the machine -/

theorem withSample_wakePend (c : Channel) (b : AccBank) (s : State) : withSample c b s.aon.wakePend s = s.setAcc c b := by
  cases c <;> rfl

theorem sampleChannel_of_rising {c : Channel} {v : Bool} {s : State} (h : (shiftedBank v (s.acc c)).sync.rising = true) :
    sampleChannel c v s = onEdge c (s.setAcc c (shiftedBank v (s.acc c))) :=
  if_pos (by rw [State.acc_setAcc]; exact h)

theorem sampleChannel_of_not_rising {c : Channel} {v : Bool} {s : State} (h : ¬(shiftedBank v (s.acc c)).sync.rising = true) :
    sampleChannel c v s = s.setAcc c (shiftedBank v (s.acc c)) :=
  if_neg (by rw [State.acc_setAcc]; exact h)

/-- R150, R155: a channel's sample either only shifts its synchroniser, or its edge is accepted and latched. -/
theorem sampleChannel_cases (c : Channel) (v : Bool) (s : State) :
    (¬EdgeAccepted (refractOf s.cfg c) s.aon.time (s.acc c) ∧
        sampleChannel c v s = withSample c (shiftedBank v (s.acc c)) s.aon.wakePend s) ∨
      (EdgeAccepted (refractOf s.cfg c) s.aon.time (s.acc c) ∧
        sampleChannel c v s = withSample c ((shiftedBank v (s.acc c)).acceptEdge s.aon.time)
          (s.aon.wakePend ||| (edgeSource c).mask) s) := by
  rw [edgeAccepted_iff (v := v), withSample_wakePend]
  by_cases hrise : (shiftedBank v (s.acc c)).sync.rising = true
  · rw [sampleChannel_of_rising hrise]
    obtain ⟨hno, hstep⟩ | ⟨hyes, hstep⟩ := onEdge_cases c (s.setAcc c (shiftedBank v (s.acc c)))
    · rw [State.acc_setAcc, State.setAcc_cfg, State.setAcc_aon_time] at hno
      exact .inl ⟨by simp [hno], hstep⟩
    · rw [State.acc_setAcc, State.setAcc_cfg, State.setAcc_aon_time] at hyes
      exact .inr ⟨⟨hrise, hyes⟩, by simpa [withSample, setLatch] using hstep⟩
  · exact .inl ⟨fun ⟨hr, _⟩ => hrise hr, sampleChannel_of_not_rising hrise⟩

/-- R155: every sample of a channel is one that `Samples` allows, and nothing else of the state changes. -/
theorem sampleChannel_samples (c : Channel) (v : Bool) (s : State) :
    ∃ b l, Samples (refractOf s.cfg c) s.aon.time v (edgeSource c).mask (s.acc c) b s.aon.wakePend l ∧
      sampleChannel c v s = withSample c b l s := by
  obtain ⟨hno, hstep⟩ | ⟨hyes, hstep⟩ := sampleChannel_cases c v s
  · exact ⟨_, _, samples_of_not_accepted hno v _ _, hstep⟩
  · exact ⟨_, _, samples_of_accepted hyes v _ _, hstep⟩

theorem exec_evtInRain (v : Bool) (s : State) : exec (.evtInRain v) s = .next (sampleChannel .rain v s) := rfl

theorem exec_evtInWind (v : Bool) (s : State) : exec (.evtInWind v) s = .next (sampleChannel .wind v s) := rfl

/-- Settles O17: both sample events are `sampleChannel`, whose outcome is `sampleChannel_samples`. -/
theorem sampledEdgeIsCountedOnce : Obligations.SampledEdgeIsCountedOnce := by
  intro s v
  constructor
  · obtain ⟨b, l, hsamples, hstep⟩ := sampleChannel_samples .rain v s
    exact ⟨b, l, hsamples, by rw [exec_evtInRain, hstep]⟩
  · obtain ⟨b, l, hsamples, hstep⟩ := sampleChannel_samples .wind v s
    exact ⟨b, l, hsamples, by rw [exec_evtInWind, hstep]⟩

end Sys2Proof.EdgeSampling
end

section
/-! The rules of the shared operations that the controller's micro-steps call (42_power_fsm.md): a request that is answered, the
store after an answered `STORE_SET`, the flush and the rate of a channel. -/

open Sys2Proof Sys2Proof.Machine Sys2Proof.Claims

namespace Sys2Proof.PowerFsm

/-! ## The request port (R260, R264) -/

theorem statusOk_freeResponse_iff {s : State} : statusOk (freeResponse s) = true ↔ s.ans.status = 0 := by
  simp [statusOk, freeResponse]

theorem statusOk_freeResponse_eq_false_iff {s : State} : statusOk (freeResponse s) = false ↔ s.ans.status ≠ 0 := by
  simp [statusOk, freeResponse]

theorem reqJoin_answered {s : State} (hr : s.ans.ready = true) :
    reqJoin s = some (statusOk (freeResponse s), answered 0x00000001 [] (freeResponse s) s) := by
  rw [reqJoin, transact_answered hr, storeEffect_of_ne (by decide)]
  rfl

theorem reqSensorRead_answered {s : State} (hr : s.ans.ready = true) (dev q : Byte) :
    reqSensorRead dev q s = some (if statusOk (freeResponse s) then some s.ans.data else none,
      answered (requestHeader .sensorRead dev q) [] (freeResponse s) s) := by
  rw [reqSensorRead, transact_answered hr, storeEffect_of_ne (by decide)]
  rfl

/-- The state after an answered `STORE_SET` of a key, whatever the answer is. -/
def afterStoreSet (key : Byte) (bytes : List Byte) (s : State) : State :=
  { answered (requestHeader .storeSet key (BitVec.ofNat 8 bytes.length)) bytes (freeResponse s) s with
    ds := storeEffect .storeSet key bytes (freeResponse s) s.ds }

theorem reqStoreSet_answered {s : State} (hr : s.ans.ready = true) (key : Byte) (bytes : List Byte) :
    reqStoreSet key bytes s = some (statusOk (freeResponse s), afterStoreSet key bytes s) := by
  rw [reqStoreSet, transact_answered hr]
  rfl

theorem afterStoreSet_of_err {s : State} (h : s.ans.status ≠ 0) (key : Byte) (bytes : List Byte) :
    afterStoreSet key bytes s =
      answered (requestHeader .storeSet key (BitVec.ofNat 8 bytes.length)) bytes (freeResponse s) s := by
  rw [afterStoreSet, storeEffect_err (r := freeResponse s) h]
  rfl

theorem get_afterStoreSet_of_ok {s : State} (h : s.ans.status = 0) (key : Byte) (bytes : List Byte) :
    Store.get key.toNat (afterStoreSet key bytes s).ds = some bytes ∧
      ∀ k, k ≠ key.toNat → Store.get k (afterStoreSet key bytes s).ds = Store.get k s.ds := by
  have hds : (afterStoreSet key bytes s).ds = Store.set key.toNat bytes s.ds := storeEffect_ok (r := freeResponse s) h ..
  rw [hds]
  exact ⟨Store.get_set_same .., fun k hk => Store.get_set_other hk ..⟩

/-! ## The accumulator (R163 to R166, R172) -/

theorem flush_flushes (u h : Word) (a : AccBank) : Flushes u h a (a.flush u h) := by
  obtain ⟨hpending, htotal, hsince, hdur, hwin, hkept⟩ := flush_fields u h a
  obtain ⟨htotalSat, hreport, hauxSat⟩ := flush_flags u h a
  refine ⟨hpending, htotal, ?totalSat, ?sinceRpt, ?reportReq, ?durEdges, ?winCount, ?auxSat, hkept⟩
  case totalSat => simp [htotalSat, max64]
  case sinceRpt => rw [hsince, sat32_toNat]
  case reportReq => rw [hreport]; simp
  case durEdges => rw [hdur, sat32_toNat]
  case winCount => rw [hwin, sat32_toNat]
  case auxSat => simp [hauxSat, max32, or_assoc]

theorem flush_winStart (u h : Word) (a : AccBank) : (a.flush u h).winStart = a.winStart := by
  obtain ⟨-, -, -, -, -, -, -, -, -, hwinStart, -⟩ := flush_fields u h a
  exact hwinStart

theorem rate_isRate (n u : Word) (el : DWord) : IsRate n u el (rate n u el) := by
  constructor
  · rintro rfl
    rfl
  · intro hel
    have hticks : el.toNat ≠ 0 := fun h => hel (BitVec.eq_of_toNat_eq h)
    rw [rate, if_neg hticks, sat64_toNat]

theorem cmdFlush_state (c : Channel) (s : State) :
    (cmdFlush c s).2 = s.setAcc c ((s.acc c).flush (unitOf s.cfg c) (threshOf s.cfg c)) := rfl

/-- R172: the window's rate is taken from the flushed count and the window's old start. -/
theorem cmdSampleRate_state (c : Channel) (s : State) :
    (cmdSampleRate c s).2 =
      let b := (s.acc c).flush (unitOf s.cfg c) (threshOf s.cfg c)
      s.setAcc c { b with
        lastRate := rate b.winCount (unitOf s.cfg c) (s.aon.time - (s.acc c).winStart)
        winCount := 0
        winStart := s.aon.time } := by
  simp only [cmdSampleRate, cmdFlush_state, State.acc_setAcc, State.setAcc_setAcc, State.setAcc_aon_time, State.setAcc_cfg,
    flush_winStart]

end Sys2Proof.PowerFsm
end

section
/-! The micro-steps of `BOOT` and `JOIN_NETWORK` (42_power_fsm.md R204 to R208). -/

open Sys2Proof Sys2Proof.Machine Sys2Proof.Claims

namespace Sys2Proof.PowerFsm

/-! ## Arming and dispatch (R204) -/

/-- R204: both channels armed. -/
def bothArmed (s : State) : State :=
  { s with aon := { s.aon with rain := { s.aon.rain with armed := true }, wind := { s.aon.wind with armed := true } } }

theorem exec_boot3 (s : State) :
    exec .boot3 s =
      if (s.aon.wakeCause = 4 ∧ s.main.assocStored = false) ∨ s.aon.joinPending = true then
        .next (atStep 1 0 { bothArmed s with main := { s.main with joinTry := 0 } })
      else .next (atStep 2 0 (bothArmed s)) := rfl

/-- Settles O39: the two branches of `exec_boot3`. -/
theorem bootArmsAndDispatches : Obligations.BootArmsAndDispatches := by
  intro s
  exact ⟨fun hjoin => (exec_boot3 s).trans (if_pos hjoin), fun hno => (exec_boot3 s).trans (if_neg hno)⟩

/-! ## The join attempt and its backoff (R205 to R207) -/

theorem exec_join0_of_ok {s : State} (hr : s.ans.ready = true) (hok : s.ans.status = 0) :
    exec .join0 s = .next (atStep 1 2 (answered 0x00000001 [] (freeResponse s) s)) := by
  show execJoin0 s = _
  rw [execJoin0, reqJoin_answered hr, statusOk_freeResponse_iff.2 hok]
  rfl

theorem exec_join0_of_err {s : State} (hr : s.ans.ready = true) (herr : s.ans.status ≠ 0) :
    exec .join0 s = .next (joinFailed (answered 0x00000001 [] (freeResponse s) s)) := by
  show execJoin0 s = _
  rw [execJoin0, reqJoin_answered hr, statusOk_freeResponse_eq_false_iff.2 herr]
  rfl

theorem ofNat_toNat_succ (b : Byte) : BitVec.ofNat 8 (b.toNat + 1) = b + 1 := by
  rw [BitVec.ofNat_add, BitVec.ofNat_toNat, BitVec.setWidth_eq]
  rfl

/-- R206: a failure with attempts left counts, and waits the backoff of its number. -/
theorem joinFailed_of_lt {s : State} (h : s.main.joinTry.toNat + 1 < s.cfg.joinAttempts.toNat) :
    joinFailed s = goto .joinNetwork 1 { s with main := { s.main with
      joinTry := s.main.joinTry + 1
      waitUntil := sat64 (s.aon.time.toNat + backoff s.cfg (s.main.joinTry.toNat + 1)) } } := by
  simp only [joinFailed, if_pos h, ofNat_toNat_succ]

/-- R206: the last failure owes a join and a long sleep. -/
theorem joinFailed_of_not_lt {s : State} (h : ¬s.main.joinTry.toNat + 1 < s.cfg.joinAttempts.toNat) :
    joinFailed s = goto .enterSleep 0 { s with
      aon := { s.aon with joinPending := true }
      main := { s.main with joinTry := s.main.joinTry + 1, longSleep := true } } := by
  simp only [joinFailed, if_neg h, ofNat_toNat_succ]

/-- Settles O40: the answer decides between success and `joinFailed`, whose two cases are `joinFailed_of_lt` and
`joinFailed_of_not_lt`. -/
theorem joinAttemptOutcome : Obligations.JoinAttemptOutcome := by
  intro s hr _
  refine ⟨exec_join0_of_ok hr, fun herr hleft => ?backoff, fun herr hlast => ?last⟩
  case backoff => exact (exec_join0_of_err hr herr).trans (congrArg _ (joinFailed_of_lt hleft))
  case last => exact (exec_join0_of_err hr herr).trans (congrArg _ (joinFailed_of_not_lt (Nat.not_lt.2 hlast.ge)))

theorem exec_join1 (s : State) :
    exec .join1 s = if s.main.waitUntil.toNat ≤ s.aon.time.toNat then .next (atStep 1 0 s) else .next s := rfl

/-- Settles O41: the two branches of `exec_join1`. -/
theorem joinBackoffWaits : Obligations.JoinBackoffWaits := by
  intro s
  exact ⟨fun hdone => (exec_join1 s).trans (if_pos hdone), fun hwait => (exec_join1 s).trans (if_neg (Nat.not_le.2 hwait))⟩

/-! ## Join success (R208) -/

theorem exec_join2_answered {s : State} (hr : s.ans.ready = true) :
    exec .join2 s = .next (atStep 2 0 { afterStoreSet keyAssoc [0x01] s with
      aon := { s.aon with joinPending := false }
      main := { s.main with assocStored := true } }) := by
  show execJoin2 s = _
  rw [execJoin2, reqStoreSet_answered hr]
  rfl

/-- Settles O42: the store is the one after an answered `STORE_SET` of `KEY_ASSOC`. -/
theorem joinSuccessStoresAssociation : Obligations.JoinSuccessStoresAssociation := by
  intro s hr
  exact ⟨(afterStoreSet keyAssoc [0x01] s).ds, exec_join2_answered hr, fun herr => by rw [afterStoreSet_of_err herr]; rfl,
    fun hok => get_afterStoreSet_of_ok hok keyAssoc [0x01]⟩

end Sys2Proof.PowerFsm
end

section
/-! The micro-steps of `ACTIVE_SESSION` that are neither a probe, a report nor the battery sample (42_power_fsm.md R210 to R224),
and the battery percentage (R215). -/

open Sys2Proof Sys2Proof.Machine Sys2Proof.Claims

namespace Sys2Proof.PowerFsm

/-! ## The start and the cache check (R210, R133) -/

/-- R210: of the four latches only the button's is left. -/
theorem clearLatch_timer_rain_wind (pend : BitVec 4) :
    clearLatch .windEdge (clearLatch .rainEdge (clearLatch .timer pend)) = pend &&& 0b1000 := by
  revert pend; decide

theorem exec_activeSession0 (s : State) :
    exec .activeSession0 s = .next (atStep 2 1 { s with
      aon := { s.aon with wakePend := s.aon.wakePend &&& 0b1000 }
      main := { s.main with sessionStart := s.aon.time, fullPath := true, battNew := false, tryCount := 0 } }) := by
  rw [← clearLatch_timer_rain_wind]
  rfl

theorem exec_activeSession1 (s : State) :
    exec .activeSession1 s = if s.aon.combo.valid = true then .next (atStep 2 5 s)
      else .next (atStep 2 2 { s with main := { s.main with tryCount := 0 } }) := rfl

/-- Settles O43: `exec_activeSession0` and the two branches of `exec_activeSession1`. -/
theorem sessionStartAndCacheCheck : Obligations.SessionStartAndCacheCheck := by
  intro s
  exact ⟨exec_activeSession0 s, fun hcached => (exec_activeSession1 s).trans (if_pos hcached),
    fun hnot => (exec_activeSession1 s).trans (if_neg (Bool.eq_false_iff.1 hnot))⟩

/-! ## The flushes (R212, R213) -/

theorem exec_activeSession5 (s : State) : exec .activeSession5 s = .next (atStep 2 6 (cmdFlush .rain s).2) := rfl

theorem exec_activeSession6 (s : State) : exec .activeSession6 s = .next (atStep 2 7 (cmdSampleRate .wind s).2) := rfl

/-- Settles O45: each step is a command on one bank (`cmdFlush_state`, `cmdSampleRate_state`), and the bank is flushed as
`flush_flushes` and rated as `rate_isRate` say. -/
theorem sessionFlushesBothChannels : Obligations.SessionFlushesBothChannels := by
  intro s
  constructor
  · exact ⟨_, flush_flushes .., by rw [exec_activeSession5, cmdFlush_state]; rfl⟩
  · exact ⟨_, _, flush_flushes .., rate_isRate .., by rw [exec_activeSession6, cmdSampleRate_state]; rfl⟩

/-! ## The battery percentage (R215) -/

theorem pct_le_hundred {g : Cfg} (hg : g.battLoMv.toNat < g.battHiMv.toNat) (mv : Word) : (pct g mv).toNat ≤ 100 := by
  obtain hlow | hlow := le_or_gt mv.toNat g.battLoMv.toNat
  · simp [pct_low hlow]
  obtain hhigh | hhigh := le_or_gt g.battHiMv.toNat mv.toNat
  · simp [pct_high hg hhigh]
  · rw [pct_between hlow hhigh]
    exact pct_quotient_le (by omega)

/-- R215: below the low bound the percentage is least, above the high bound greatest, and between them the quotient's numerator
rises with the voltage. -/
theorem pct_mono {g : Cfg} (hg : g.battLoMv.toNat < g.battHiMv.toNat) {mv mv' : Word} (h : mv.toNat ≤ mv'.toNat) :
    (pct g mv).toNat ≤ (pct g mv').toNat := by
  obtain hlow | hlow := le_or_gt mv.toNat g.battLoMv.toNat
  · simp [pct_low hlow]
  obtain hhigh | hhigh := le_or_gt g.battHiMv.toNat mv'.toNat
  · simpa [pct_high hg hhigh] using pct_le_hundred hg mv
  · rw [pct_between hlow (by omega), pct_between (by omega) hhigh]
    exact Nat.div_le_div_right (by omega)

/-- Settles O47: the three pieces of the percentage, `pct_mono` and `pct_le_hundred`. -/
theorem percentageIsMonotonic : Obligations.PercentageIsMonotonic := by
  intro g hg
  exact ⟨fun _ => pct_low, fun _ => pct_high hg, fun _ => pct_between, fun _ _ => pct_mono hg, pct_le_hundred hg⟩

/-! ## The sensor reads (R217)

`readStep_cases` leaves the state after the request open; the four equations here give it for each source and answer. -/

/-- The state after a read of `q` is done with value `v`: `SVAL_q` written, `TRY` cleared, the FSM at `ACTIVE_SESSION.k'`. -/
def readDone (q : Quantity) (k' : BitVec 5) (v : DWord) (t : State) : State :=
  atStep 2 k' { t with main := { (setSval q v t).main with tryCount := 0 } }

theorem goto_setTry_setSval (q : Quantity) (k' : BitVec 5) (v : DWord) (t : State) :
    goto .activeSession k' (setTry 0 (setSval q v t)) = readDone q k' v t := by cases q <;> rfl

/-- The state once the read of `q` has been requested and answered. -/
def readAnswered (q : Quantity) (s : State) : State :=
  answered (requestHeader .sensorRead ((sourceOf s.aon.combo q).setWidth 8) q.code) [] (freeResponse s) s

theorem readStep_of_no_source {q : Quantity} {s : State} (h : sourceOf s.aon.combo q = 0) (k k' : BitVec 5) :
    readStep q k k' s = .next (readDone q k' (sentinelOf s.cfg q) s) := by
  simp only [readStep, if_pos h, goto_setTry_setSval]

theorem readStep_unanswered {q : Quantity} {s : State} (h : sourceOf s.aon.combo q ≠ 0) (hr : s.ans.ready = false)
    (k k' : BitVec 5) : readStep q k k' s = .next s := by
  simp only [readStep, if_neg h, reqSensorRead, transact_unanswered hr, Option.map_none, hold]

theorem readStep_of_ok {q : Quantity} {s : State} (h : sourceOf s.aon.combo q ≠ 0) (hr : s.ans.ready = true)
    (hok : s.ans.status = 0) (k k' : BitVec 5) :
    readStep q k k' s = .next (readDone q k' s.ans.data (readAnswered q s)) := by
  simp only [readStep, if_neg h, reqSensorRead_answered hr, statusOk_freeResponse_iff.2 hok, if_true, goto_setTry_setSval,
    readAnswered]

theorem readStep_of_err {q : Quantity} {s : State} (h : sourceOf s.aon.combo q ≠ 0) (hr : s.ans.ready = true)
    (herr : s.ans.status ≠ 0) (k k' : BitVec 5) :
    readStep q k k' s = .next (if retriesLeft s then
        atStep 2 k { readAnswered q s with main := { s.main with tryCount := s.main.tryCount + 1 } }
      else readDone q k' (sentinelOf s.cfg q) (readAnswered q s)) := by
  simp only [readStep, if_neg h, reqSensorRead_answered hr, statusOk_freeResponse_eq_false_iff.2 herr, Bool.false_eq_true,
    if_false, goto_setTry_setSval]
  rfl

/-- What the micro-step that reads `q` at substep `k`, with the next substep `k'`, answers in `s`. -/
def ReadOutcome (q : Quantity) (k k' : BitVec 5) (s : State) (r : Result) : Prop :=
  let src := sourceOf s.aon.combo q
  let u := readAnswered q s
  (src = 0 → r = .next (readDone q k' (sentinelOf s.cfg q) s)) ∧
    (src ≠ 0 → s.ans.ready = false → r = .next s) ∧
    (src ≠ 0 → s.ans.ready = true → s.ans.status = 0 → r = .next (readDone q k' s.ans.data u)) ∧
    (src ≠ 0 → s.ans.ready = true → s.ans.status ≠ 0 → s.main.tryCount.toNat < s.cfg.probeRetries.toNat →
      r = .next (atStep 2 k { u with main := { s.main with tryCount := s.main.tryCount + 1 } })) ∧
    (src ≠ 0 → s.ans.ready = true → s.ans.status ≠ 0 → s.cfg.probeRetries.toNat ≤ s.main.tryCount.toNat →
      r = .next (readDone q k' (sentinelOf s.cfg q) u))

theorem readStep_outcome (q : Quantity) (k k' : BitVec 5) (s : State) : ReadOutcome q k k' s (readStep q k k' s) := by
  refine ⟨fun h => readStep_of_no_source h k k', fun h hr => readStep_unanswered h hr k k',
    fun h hr hok => readStep_of_ok h hr hok k k', fun h hr herr hleft => ?retry, fun h hr herr hnone => ?giveUp⟩
  case retry => rw [readStep_of_err h hr herr, if_pos (Identification.retriesLeft_iff.2 hleft)]
  case giveUp => rw [readStep_of_err h hr herr, Identification.retriesLeft_eq_false_iff.2 hnone]; rfl

/-- Settles O48: each read step is `readStep` of its quantity, whose outcome is `readStep_outcome`. -/
theorem sensorReadsWithRetry : Obligations.SensorReadsWithRetry := by
  intro s p hp
  simp only [List.mem_cons, List.not_mem_nil, or_false] at hp
  obtain rfl | rfl | rfl := hp
  case inl => exact readStep_outcome .temperature 8 9 s
  case inr.inl => exact readStep_outcome .humidity 9 10 s
  case inr.inr => exact readStep_outcome .pressure 10 11 s

/-! ## The wait for the radio (R224) -/

theorem exec_activeSession19 (s : State) :
    exec .activeSession19 s =
      if s.radioIdle = true ∨ s.cfg.activeTimeout.toNat ≤ (s.aon.time - s.main.sessionStart).toNat then
        .next (atStep 3 0 s)
      else .next s := by
  show execActiveSession19 s = _
  simp only [execActiveSession19, Bool.or_eq_true, decide_eq_true_eq]
  rfl

/-- Settles O50: the two branches of `exec_activeSession19`. -/
theorem radioWaitIsBounded : Obligations.RadioWaitIsBounded := by
  intro s
  exact ⟨fun hend => (exec_activeSession19 s).trans (if_pos hend),
    fun hwait => (exec_activeSession19 s).trans (if_neg hwait)⟩

end Sys2Proof.PowerFsm
end

section
/-! The micro-steps of `ENTER_SLEEP` up to the sleep plan (42_power_fsm.md R230 to R234). -/

open Sys2Proof Sys2Proof.Machine Sys2Proof.Claims

namespace Sys2Proof.PowerFsm

/-! ## The power gates and the factory check (R230, R231) -/

/-- R230: a list of pins adds one `SET_LEVEL` request for each, and nothing else. -/
theorem gatesLow_eq (pins : List Byte) (s : State) :
    gatesLow pins s = { s with trace := s.trace ++ pins.map fun p => ⟨requestHeader .setLevel p 0, []⟩ } := by
  induction pins generalizing s with
  | nil => simp [gatesLow]
  | cons p pins ih =>
    have hcons : gatesLow (p :: pins) s = gatesLow pins (emit .setLevel p 0 [] s) := rfl
    simp [hcons, ih, emit]

theorem exec_enterSleep0 (s : State) : exec .enterSleep0 s = .next (atStep 3 1 (gatesLow s.cfg.gatePins s)) := rfl

theorem exec_enterSleep1 (s : State) :
    exec .enterSleep1 s = .next (if s.aon.frstPend = true then atStep 6 0 s else atStep 3 2 s) := rfl

/-- Settles O51: `gatesLow_eq` for the gates, and the two branches of `exec_enterSleep1`. -/
theorem gatesLowThenFactoryCheck : Obligations.GatesLowThenFactoryCheck := by
  intro s
  refine ⟨?_, fun hpend => ?_, fun hnone => ?_⟩
  · rw [exec_enterSleep0, gatesLow_eq]
    rfl
  · rw [exec_enterSleep1, if_pos hpend]
  · rw [exec_enterSleep1, if_neg (Bool.eq_false_iff.1 hnone)]

/-! ## The durable writes (R232, R233)

`persistStep_cases` leaves the state after the request open; the three equations here give it. -/

theorem persistDue_iff {c : Channel} {s : State} :
    persistDue c s = true ↔ PersistDue s.cfg s.main.fullPath (s.acc c) := by
  have hpos : 0 < (s.acc c).durEdges.toNat ↔ (s.acc c).durEdges ≠ 0 := by
    rw [Nat.pos_iff_ne_zero, ne_eq, ne_eq, ← BitVec.toNat_inj]
    rfl
  simp [persistDue, PersistDue, hpos]

theorem persistDue_eq_false_iff {c : Channel} {s : State} :
    persistDue c s = false ↔ ¬PersistDue s.cfg s.main.fullPath (s.acc c) := by
  rw [← persistDue_iff, Bool.not_eq_true]

theorem persistStep_of_not_due {c : Channel} {s : State} (h : persistDue c s = false) (k' : BitVec 5) :
    persistStep c k' s = .next (atStep 3 k' s) := by
  rw [persistStep, h]
  rfl

theorem persistStep_unanswered {c : Channel} {s : State} (h : persistDue c s = true) (hr : s.ans.ready = false)
    (k' : BitVec 5) : persistStep c k' s = .next s := by
  rw [persistStep, if_pos h, reqStoreSet, transact_unanswered hr]
  rfl

/-- R232: the write goes out, and `OK` clears `DUR_EDGES`. -/
theorem persistStep_answered {c : Channel} {s : State} (h : persistDue c s = true) (hr : s.ans.ready = true)
    (k' : BitVec 5) :
    persistStep c k' s =
      let u := afterStoreSet (keyTotal c) (le64 (s.acc c).total) s
      .next (atStep 3 k' (if statusOk (freeResponse s) then u.setAcc c { s.acc c with durEdges := 0 } else u)) := by
  rw [persistStep, if_pos h, reqStoreSet_answered hr]
  rfl

/-- What the micro-step that writes the total of `c` answers in `s`. -/
def PersistOutcome (c : Channel) (k' : BitVec 5) (s : State) (r : Result) : Prop :=
  let a := s.acc c
  let u := answered (requestHeader .storeSet (keyTotal c) 8) (le64 a.total) (freeResponse s) s
  (¬PersistDue s.cfg s.main.fullPath a → r = .next (atStep 3 k' s)) ∧
    (PersistDue s.cfg s.main.fullPath a → s.ans.ready = false → r = .next s) ∧
    (PersistDue s.cfg s.main.fullPath a → s.ans.ready = true → s.ans.status ≠ 0 → r = .next (atStep 3 k' u)) ∧
    (PersistDue s.cfg s.main.fullPath a → s.ans.ready = true → s.ans.status = 0 →
      ∃ ds, r = .next (atStep 3 k' ({ u with ds := ds }.setAcc c { a with durEdges := 0 })) ∧
        Store.get (keyTotal c).toNat ds = some (le64 a.total) ∧
        ∀ k, k ≠ (keyTotal c).toNat → Store.get k ds = Store.get k s.ds)

theorem persistStep_outcome (c : Channel) (k' : BitVec 5) (s : State) : PersistOutcome c k' s (persistStep c k' s) := by
  refine ⟨fun hno => persistStep_of_not_due (persistDue_eq_false_iff.2 hno) k',
    fun hdue hr => persistStep_unanswered (persistDue_iff.2 hdue) hr k', fun hdue hr herr => ?err, fun hdue hr hok => ?ok⟩
  case err =>
    rw [persistStep_answered (persistDue_iff.2 hdue) hr, statusOk_freeResponse_eq_false_iff.2 herr, afterStoreSet_of_err herr]
    rfl
  case ok =>
    refine ⟨_, ?_, get_afterStoreSet_of_ok hok (keyTotal c) (le64 (s.acc c).total)⟩
    rw [persistStep_answered (persistDue_iff.2 hdue) hr, statusOk_freeResponse_iff.2 hok]
    rfl

/-- Settles O52: both steps are `persistStep`, whose outcome is `persistStep_outcome`. -/
theorem durableWriteWhenDue : Obligations.DurableWriteWhenDue := by
  intro s p hp
  simp only [List.mem_cons, List.not_mem_nil, or_false] at hp
  obtain rfl | rfl := hp
  case inl => exact persistStep_outcome .rain 3 s
  case inr => exact persistStep_outcome .wind 4 s

/-! ## The sleep plan (R234) -/

/-- R234: the deadline that the plan leaves. -/
def plannedDeadline (s : State) : DWord :=
  if s.aon.timerRun = false ∨ s.main.longSleep = true then
    sat64 (s.aon.time.toNat + (if s.main.longSleep then s.cfg.joinFailInterval else s.cfg.sleepInterval).toNat)
  else s.aon.deadline

/-- R234: the timer runs afterwards in either case; where the deadline is kept, it was running. -/
theorem restartTimer_eq (s : State) :
    restartTimer s = { s with aon := { s.aon with deadline := plannedDeadline s, timerRun := true } } := by
  unfold restartTimer plannedDeadline
  by_cases h : s.aon.timerRun = false ∨ s.main.longSleep = true
  · simp [h]
  · obtain ⟨hrun, hlong⟩ : s.aon.timerRun = true ∧ s.main.longSleep = false := by simpa using h
    have haon : { s.aon with deadline := s.aon.deadline, timerRun := true } = s.aon := by rw [← hrun]
    rw [if_neg h, haon]
    simp [hrun, hlong]

theorem remainingTicks_toNat (a : Aon) : (remainingTicks a).toNat = min (a.deadline.toNat - a.time.toNat) max32 := by
  unfold remainingTicks
  split_ifs with h
  · exact sat32_toNat _
  · simp [Nat.sub_eq_zero_of_le (Nat.not_lt.1 h)]

theorem exec_enterSleep4 (s : State) :
    exec .enterSleep4 s = .next (atStep 3 5 { s with
      aon := { s.aon with deadline := plannedDeadline s, timerRun := true }
      main := { s.main with
        planArm := if s.assocValid && !s.aon.joinPending then 0b1111 else 0b0001
        planRetain := s.assocValid && !s.aon.joinPending
        longSleep := false
        sleepDur := remainingTicks { s.aon with deadline := plannedDeadline s, timerRun := true } } }) := by
  show Host.Outcome.next (goto .enterSleep 5 (buildPlan s)) = _
  rw [buildPlan, restartTimer_eq]
  rfl

/-- Settles O53: `exec_enterSleep4` with the deadline of `plannedDeadline` and the duration of `remainingTicks_toNat`. -/
theorem sleepPlanIsBuilt : Obligations.SleepPlanIsBuilt := by
  intro s
  refine ⟨plannedDeadline s, _, fun hrestart => ?_, fun hkept => if_neg hkept, remainingTicks_toNat _, exec_enterSleep4 s⟩
  rw [plannedDeadline, if_pos hrestart, sat64_toNat]

end Sys2Proof.PowerFsm
end

section
/-! The micro-steps of `WAKE` before the fast path (42_power_fsm.md R241, R242; 60_exceptions.md R314). -/

open Sys2Proof Sys2Proof.Machine Sys2Proof.Claims

namespace Sys2Proof.PowerFsm

/-! ## The dispatch (R241, R314) -/

theorem servedBit_eq (m : BitVec 4) : servedBit m = ((pri m).mask, (pri m).code) := by revert m; decide

theorem served_eq_dispatchWake (m : BitVec 4) (s : State) : served m s = dispatchWake (pri m) s := by
  rw [served, servedBit_eq]
  rfl

/-- R241: where the dispatch of a source leads. -/
def afterDispatch (k : WakeSrc) (s u : State) : State :=
  match k with
  | .button => atStep 5 1 u
  | .timer => if s.aon.joinPending then atStep 1 0 { u with main := { s.main with joinTry := 0 } } else atStep 2 0 u
  | .rainEdge | .windEdge => if s.assocValid then atStep 5 2 u else atStep 2 0 u

theorem exec_wake0_of_none {s : State} (h : armedPending s = 0) : exec .wake0 s = .next (atStep 3 0 s) := if_pos h

theorem exec_wake0_of_pending {s : State} (h : armedPending s ≠ 0) :
    exec .wake0 s = .next (afterDispatch (pri (armedPending s)) s (served (armedPending s) s)) := by
  rw [served_eq_dispatchWake]
  show execWake0 s = _
  rw [execWake0, if_neg h]
  cases pri (armedPending s) <;> rfl

theorem servedBit_eq_mask_iff {m : BitVec 4} {k : WakeSrc} : (servedBit m).1 = k.mask ↔ pri m = k := by
  revert m; cases k <;> decide

theorem exec_wake0_of_servedBit {s : State} (k : WakeSrc) (h : armedPending s ≠ 0)
    (hk : (servedBit (armedPending s)).1 = k.mask) :
    exec .wake0 s = .next (afterDispatch k s (served (armedPending s) s)) := by
  rw [exec_wake0_of_pending h, servedBit_eq_mask_iff.1 hk]

/-- R241: both edges take the fast path exactly while the association is valid. -/
theorem exec_wake0_of_edge {s : State} (h : armedPending s ≠ 0)
    (hk : (servedBit (armedPending s)).1 = 0b0010 ∨ (servedBit (armedPending s)).1 = 0b0100) :
    exec .wake0 s = .next (if s.assocValid then atStep 5 2 (served (armedPending s) s)
      else atStep 2 0 (served (armedPending s) s)) := by
  obtain hrain | hwind := hk
  · exact exec_wake0_of_servedBit .rainEdge h hrain
  · exact exec_wake0_of_servedBit .windEdge h hwind

/-- Settles O57: the served bit is the mask of one source (`servedBit_eq_mask_iff`), and each source's path is its case of
`afterDispatch`. -/
theorem wakeDispatchByPriority : Obligations.WakeDispatchByPriority := by
  intro s
  refine ⟨exec_wake0_of_none, exec_wake0_of_servedBit .button, fun hm hk hjoin => ?join, fun hm hk hnone => ?session,
    fun hm hk hvalid => ?fast, fun hm hk hinvalid => ?full⟩
  case join => exact (exec_wake0_of_servedBit .timer hm hk).trans (congrArg _ (if_pos hjoin))
  case session => exact (exec_wake0_of_servedBit .timer hm hk).trans (congrArg _ (if_neg (Bool.eq_false_iff.1 hnone)))
  case fast => exact (exec_wake0_of_edge hm hk).trans (congrArg _ (if_pos hvalid))
  case full => exact (exec_wake0_of_edge hm hk).trans (congrArg _ (if_neg (Bool.eq_false_iff.1 hinvalid)))

/-! ## The button hold (R242) -/

theorem exec_wake1 (s : State) :
    exec .wake1 s =
      if s.aon.bsync.s2 = false ∨ s.cfg.btnHold.toNat ≤ (s.aon.time - s.aon.btnPress).toNat then
        .next (if s.aon.bsync.s2 then atStep 6 0 s else atStep 2 0 s)
      else .next s := rfl

/-- Settles O58: the branches of `exec_wake1`. -/
theorem buttonHoldDecides : Obligations.ButtonHoldDecides := by
  intro s
  refine ⟨fun hreleased => ?_, fun hpressed hheld => ?_, fun hpressed hshort => ?_⟩
  · rw [exec_wake1, if_pos (.inl hreleased), hreleased]
    rfl
  · rw [exec_wake1, if_pos (.inr hheld), if_pos hpressed]
  · rw [exec_wake1, if_neg (not_or.2 ⟨by simp [hpressed], Nat.not_le.2 hshort⟩)]

end Sys2Proof.PowerFsm
end

section
/-! The tick and the one-shot periodic timer (60_exceptions.md R311, R316): what the running timer does at its deadline, and what a
tick answers in every state. -/

open Sys2Proof Sys2Proof.Machine Sys2Proof.Claims

namespace Sys2Proof.OneShotTimer

/-! ## Advancing `TIME` (R316) -/

theorem ofNat_toNat_succ {w : Nat} (t : BitVec w) : BitVec.ofNat w (t.toNat + 1) = t + 1 := by
  rw [BitVec.ofNat_add, BitVec.ofNat_toNat, BitVec.setWidth_eq]
  rfl

theorem advanceTime_eq_ofNat (s : State) :
    advanceTime s = { s with aon := { s.aon with time := BitVec.ofNat 64 (s.aon.time.toNat + 1) } } := by
  rw [ofNat_toNat_succ]
  rfl

theorem advanceTime_time_toNat (s : State) : (advanceTime s).aon.time.toNat = (s.aon.time.toNat + 1) % 2 ^ 64 :=
  BitVec.toNat_add s.aon.time 1

/-! ## The deadline (R311) -/

/-- R311: the running timer has reached its deadline. -/
def TimerDue (s : State) : Prop := s.aon.timerRun = true ∧ s.aon.deadline.toNat ≤ s.aon.time.toNat

theorem fireTimer_of_due {s : State} (h : TimerDue s) :
    fireTimer s = { s with aon := { s.aon with wakePend := s.aon.wakePend ||| 0b0001, timerRun := false } } := by
  obtain ⟨hrun, hreached⟩ := h
  exact if_pos (by simp [hrun, hreached])

theorem fireTimer_of_not_due {s : State} (h : ¬TimerDue s) : fireTimer s = s :=
  if_neg fun hfires => h (by simpa [TimerDue] using hfires)

/-- The comparison is with `TIME` after the advance, wrapped: a tick from the last `TIME` compares with 0. -/
theorem timerDue_advanceTime_iff (s : State) :
    TimerDue (advanceTime s) ↔
      s.aon.timerRun = true ∧ s.aon.deadline.toNat ≤ (s.aon.time.toNat + 1) % 2 ^ 64 := by
  rw [TimerDue, advanceTime_time_toNat, advanceTime_aon]

/-! ## The tick -/

theorem exec_evtTick (l : Bool) (s : State) : exec (.evtTick l) s = .next (fireTimer (advanceTime s)) := rfl

/-- Settles O16: a tick is `exec_evtTick`; whether the timer fires is `timerDue_advanceTime_iff`, and what it leaves is
`fireTimer_of_due` or `fireTimer_of_not_due`. -/
theorem tickAdvancesTimeAndFiresTimer : Obligations.TickAdvancesTimeAndFiresTimer := by
  intro s l
  rw [exec_evtTick, ← timerDue_advanceTime_iff]
  refine ⟨fun hdue => ?fires, fun hnot => ?waits⟩
  case fires => rw [fireTimer_of_due hdue, advanceTime_eq_ofNat]
  case waits => rw [fireTimer_of_not_due hnot, advanceTime_eq_ofNat]

end Sys2Proof.OneShotTimer
end

section
/-! Decoding and encoding (30_encoding.md): each format's word comes back from its encoding, and a command word, stimulus word or
micro-step code that decodes is the encoding of what it decodes to. -/

open Sys2Proof Sys2Proof.Machine Sys2Proof.Claims

namespace Sys2Proof.Encoding

/-! ## The fields of a word (R77, R100, R110, R116) -/

/-- R77: the byte lanes of a word made of four bytes. -/
theorem wordOfBytes_lanes (b0 b1 b2 b3 : Byte) :
    (wordOfBytes b0 b1 b2 b3).extractLsb' 0 8 = b0 ∧ (wordOfBytes b0 b1 b2 b3).extractLsb' 8 8 = b1 ∧
      (wordOfBytes b0 b1 b2 b3).extractLsb' 16 8 = b2 ∧ (wordOfBytes b0 b1 b2 b3).extractLsb' 24 8 = b3 := by
  refine ⟨?_, ?_, ?_, ?_⟩ <;>
  · apply BitVec.eq_of_getLsbD_eq
    intro i hi
    grind [wordOfBytes]

theorem requestHeader_eq_wordOfBytes (k : ReqKind) (a b : Byte) : requestHeader k a b = wordOfBytes k.code a b 0 := rfl

/-- The one form of a command word and of a stimulus word: a code in bits 7:0 and a flag in bit 8 (R100, R116). -/
def flaggedWord (code : Byte) (flag : Bool) : Word := (0 : BitVec 23) ++ BitVec.ofBool flag ++ code

theorem flaggedWord_fields (code : Byte) (flag : Bool) :
    (flaggedWord code flag).extractLsb' 9 23 = 0 ∧ (flaggedWord code flag).getLsbD 8 = flag ∧
      (flaggedWord code flag).extractLsb' 0 8 = code := by
  refine ⟨?_, ?_, ?_⟩
  · apply BitVec.eq_of_getLsbD_eq
    intro i hi
    grind [flaggedWord]
  · grind [flaggedWord]
  · apply BitVec.eq_of_getLsbD_eq
    intro i hi
    grind [flaggedWord]

/-- A word whose reserved bits 31:9 are 0 is determined by its code and its flag. -/
theorem eq_flaggedWord {w : Word} (h : w.extractLsb' 9 23 = 0) : w = flaggedWord (w.extractLsb' 0 8) (w.getLsbD 8) := by
  apply BitVec.eq_of_getLsbD_eq
  intro i hi
  have hbit := congrArg (fun x : BitVec 23 => x.getLsbD (i - 9)) h
  simp at hbit
  grind [flaggedWord]

theorem channelOfBit_channelBit (c : Channel) : channelOfBit (channelBit c) = c := by cases c <;> rfl

theorem channelBit_channelOfBit (b : Bool) : channelBit (channelOfBit b) = b := by cases b <;> rfl

theorem eq_ofNat_of_toNat_eq {b : Byte} {n : Nat} (h : b.toNat = n) : b = BitVec.ofNat 8 n := by simp [← h]

/-! ## What decodes is the encoding of its instruction (R101, R116, R122) -/

theorem encode_of_decodeCmd {w : Word} {i : Instr} (h : decodeCmd w = .ok i) : encode i = wordBytes w := by
  unfold decodeCmd at h
  dsimp only at h
  split_ifs at h with hres
  rw [eq_flaggedWord (not_not.1 hres), ← channelBit_channelOfBit (w.getLsbD 8)]
  split at h <;> cases h <;>
  · rename_i hcode
    rw [eq_ofNat_of_toNat_eq hcode]
    rfl

theorem encode_of_decodeEvt {w : Word} {i : Instr} (h : decodeEvt w = .ok i) : encode i = wordBytes w := by
  unfold decodeEvt at h
  dsimp only at h
  split_ifs at h with hres
  rw [eq_flaggedWord (not_not.1 hres)]
  split at h <;> cases h <;>
  · rename_i hcode
    rw [eq_ofNat_of_toNat_eq hcode]
    rfl

theorem encode_of_decodeFsm {code : Byte} {i : Instr} (h : decodeFsm code = .ok i) : encode i = [code] := by
  unfold decodeFsm at h
  split at h <;> cases h <;>
  · rename_i hcode
    rw [eq_ofNat_of_toNat_eq hcode]
    rfl

/-- Settles O5: one lemma for each format. -/
theorem decodeEncodeWords : Obligations.DecodeEncodeWords :=
  ⟨fun _ _ => encode_of_decodeCmd, fun _ _ => encode_of_decodeEvt, fun _ _ => encode_of_decodeFsm⟩

/-! ## The round trip, format by format -/

theorem decode_cmd_wordBytes (w : Word) (rest : List Byte) :
    decode .cmd (wordBytes w ++ rest) = (decodeCmd w).map (·, rest) := by simp [decode]

theorem decode_evt_wordBytes (w : Word) (rest : List Byte) :
    decode .evt (wordBytes w ++ rest) = (decodeEvt w).map (·, rest) := by simp [decode]

theorem decode_req_wordBytes (w : Word) (rest : List Byte) :
    decode .req (wordBytes w ++ rest) = decodeReq w rest := by simp [decode]

/-- The encoding of a command is a word that decodes to it. -/
theorem encode_cmd {i : Instr} (h : formatOf i = .cmd) : ∃ w, encode i = wordBytes w ∧ decodeCmd w = .ok i := by
  cases i <;> simp only [formatOf, reduceCtorEq] at h
  all_goals rename_i c; refine ⟨_, rfl, ?_⟩; cases c <;> rfl

theorem encode_evt {i : Instr} (h : formatOf i = .evt) : ∃ w, encode i = wordBytes w ∧ decodeEvt w = .ok i := by
  cases i <;> simp only [formatOf, reduceCtorEq] at h
  all_goals rename_i l; refine ⟨_, rfl, ?_⟩; cases l <;> rfl

theorem encode_fsm {i : Instr} (h : formatOf i = .fsm) : ∃ code, encode i = [code] ∧ decodeFsm code = .ok i := by
  cases i <;> simp only [formatOf, reduceCtorEq] at h
  all_goals exact ⟨_, rfl, rfl⟩

/-- R110: a request header decodes by its kind alone, to an instruction with its two arguments. -/
theorem decodeReq_requestHeader (k : ReqKind) (a b : Byte) (bytes : List Byte) :
    decodeReq (requestHeader k a b) bytes =
      match k with
      | .join => .ok (.reqJoin a b, bytes)
      | .report =>
        match takeDWord bytes with
        | some (v, rest) => .ok (.reqReport a b v, rest)
        | none => .error .truncated
      | .storeGet => .ok (.reqStoreGet a b, bytes)
      | .storeSet =>
        if bytes.length < b.toNat then .error .truncated
        else .ok (.reqStoreSet a b (bytes.take b.toNat), bytes.drop b.toNat)
      | .probe => .ok (.reqProbe a b, bytes)
      | .sensorRead => .ok (.reqSensorRead a b, bytes)
      | .battSample => .ok (.reqBattSample a b, bytes)
      | .wakeCfg =>
        match takeWord bytes with
        | some (d, rest) => .ok (.reqWakeCfg a b d, rest)
        | none => .error .truncated
      | .setLevel => .ok (.reqSetLevel a b, bytes)
      | .sleepReq => .ok (.reqSleepReq a b, bytes) := by
  obtain ⟨hkind, ha, hb, hres⟩ := wordOfBytes_lanes k.code a b 0
  rw [requestHeader_eq_wordOfBytes, decodeReq, hkind, ha, hb, hres]
  cases k <;> rfl

theorem decode_encode_req {i : Instr} (h : formatOf i = .req) (hwf : WellFormed i) (rest : List Byte) :
    decode .req (encode i ++ rest) = .ok (i, rest) := by
  cases i <;> simp only [formatOf, reduceCtorEq] at h
  case reqStoreSet a b bytes =>
    have hlen : bytes.length = b.toNat := by simpa [WellFormed, Instr.wellFormed] using hwf
    simp [encode, decode_req_wordBytes, decodeReq_requestHeader, ← hlen]
  all_goals simp [encode, decode_req_wordBytes, decodeReq_requestHeader]

/-- R73: an aligned address is accepted again from its two bytes. -/
theorem busAddressBytes_decode {addr : BitVec 12} (h : addr.extractLsb' 0 2 = 0) :
    ∃ b0 b1, busAddressBytes addr = [b0, b1] ∧ decodeBusAddress b0 b1 = .ok addr := by
  let a : BitVec 16 := (0 : BitVec 4) ++ addr
  have hbytes : (a.extractLsb' 8 8 ++ a.extractLsb' 0 8 : BitVec 16) = a := by
    apply BitVec.eq_of_getLsbD_eq
    intro i hi
    grind
  have hhigh : a.extractLsb' 12 4 = 0 := BitVec.extractLsb'_append_eq_left
  have haddr : a.extractLsb' 0 12 = addr := BitVec.extractLsb'_append_eq_right
  have hlow : a.extractLsb' 0 2 = addr.extractLsb' 0 2 := BitVec.extractLsb'_append_eq_of_add_le (v := 4) (by decide)
  refine ⟨a.extractLsb' 0 8, a.extractLsb' 8 8, rfl, ?_⟩
  simp only [decodeBusAddress, hbytes, hhigh, hlow, haddr, h, ne_eq, not_true_eq_false, or_self, if_false]

theorem decode_encode_bus {addr : BitVec 12} {size : BitVec 3} (h : isBusForm addr size = true) (rest : List Byte) :
    decode .busRd (encode (.busRd addr size) ++ rest) = .ok (.busRd addr size, rest) ∧
      ∀ d, decode .busWr (encode (.busWr addr size d) ++ rest) = .ok (.busWr addr size d, rest) := by
  obtain ⟨halign, rfl⟩ : addr.extractLsb' 0 2 = 0 ∧ size = 4 := by simpa [isBusForm] using h
  obtain ⟨b0, b1, hbytes, hdec⟩ := busAddressBytes_decode halign
  constructor
  · simp [encode, hbytes, decode, hdec, Except.map]
  · intro d
    simp [encode, hbytes, decode, hdec, Except.map]

/-- Settles O4: the word of each format decodes, and a request's payload and a bus write's data are taken off what follows it. -/
theorem encodeDecodeRoundTrip : Obligations.EncodeDecodeRoundTrip := by
  intro i rest hwf
  cases hf : formatOf i with
  | cmd =>
    obtain ⟨w, henc, hdec⟩ := encode_cmd hf
    rw [henc, decode_cmd_wordBytes, hdec]
    rfl
  | req => exact decode_encode_req hf hwf rest
  | evt =>
    obtain ⟨w, henc, hdec⟩ := encode_evt hf
    rw [henc, decode_evt_wordBytes, hdec]
    rfl
  | busRd =>
    cases i <;> simp only [formatOf, reduceCtorEq] at hf
    exact (decode_encode_bus hwf rest).1
  | busWr =>
    cases i <;> simp only [formatOf, reduceCtorEq] at hf
    exact (decode_encode_bus hwf rest).2 _
  | fsm =>
    obtain ⟨code, henc, hdec⟩ := encode_fsm hf
    rw [henc, List.singleton_append, decode, hdec]
    rfl

/-- Settles O3: the decoders evaluated on the words the spec writes out. -/
theorem specWordsDecode : Obligations.SpecWordsDecode := by
  unfold Obligations.SpecWordsDecode
  decide

end Sys2Proof.Encoding
end

section
/-! The collaborator requests standing alone (43_interfaces.md R260 to R271) and the wait of every unanswered request. -/

open Sys2Proof Sys2Proof.Machine Sys2Proof.Claims

namespace Sys2Proof.RequestPort

/-! ## A transaction, answered and unanswered (R260) -/

/-- R260, R264: all that an answered request but a `STORE_SET` does. -/
theorem transaction_answered {s : State} (hr : s.ans.ready = true) {k : ReqKind} (hk : k ≠ .storeSet) (a b : Byte)
    (p : List Byte) : transaction k a b p s = .next (answered (requestHeader k a b) p (responseTo k a s) s) := by
  rw [transaction, transact_answered hr, storeEffect_of_ne hk]
  rfl

theorem transaction_unanswered {s : State} (hr : s.ans.ready = false) (k : ReqKind) (a b : Byte) (p : List Byte) :
    transaction k a b p s = .next s := by
  rw [transaction, transact_unanswered hr]
  rfl

/-- R263: a `STORE_GET` is answered from the store. -/
theorem responseTo_storeGet (a : Byte) (s : State) : responseTo .storeGet a s = storeResponse (Store.get a.toNat s.ds) := by
  unfold responseTo
  cases Store.get a.toNat s.ds <;> rfl

/-- Settles O27: each request is an answered transaction of its kind. -/
theorem answeredRequestsComplete : Obligations.AnsweredRequestsComplete := by
  intro s a b dur hr
  refine ⟨transaction_answered hr (by decide) .., ?storeGet, transaction_answered hr (by decide) ..,
    transaction_answered hr (by decide) .., transaction_answered hr (by decide) .., transaction_answered hr (by decide) ..⟩
  case storeGet =>
    rw [← responseTo_storeGet]
    exact transaction_answered hr (by decide) ..

/-- Settles O29: a fire-and-forget request is `emit` alone. -/
theorem fireAndForgetRequestsComplete : Obligations.FireAndForgetRequestsComplete :=
  fun _ _ _ _ => ⟨rfl, rfl, rfl⟩

/-! ## The store (R85, R263, R264) -/

/-- R264: an answered `STORE_SET` sends the `B` bytes; what it does to the store is `storeEffect`. -/
theorem exec_reqStoreSet_answered {s : State} (hr : s.ans.ready = true) {a b : Byte} {bytes : List Byte}
    (hlen : bytes.length = b.toNat) :
    exec (.reqStoreSet a b bytes) s =
      .next { answered (requestHeader .storeSet a b) bytes (freeResponse s) s with
        ds := storeEffect .storeSet a bytes (freeResponse s) s.ds } := by
  show transaction .storeSet a b (bytes.take b.toNat) s = _
  rw [transaction, transact_answered hr, ← hlen, List.take_length]
  rfl

theorem exec_reqStoreGet_answered {s : State} (hr : s.ans.ready = true) (a b : Byte) :
    exec (.reqStoreGet a b) s =
      .next (answered (requestHeader .storeGet a b) [] (storeResponse (Store.get a.toNat s.ds)) s) := by
  rw [← responseTo_storeGet]
  exact transaction_answered hr (by decide) ..

/-- Settles O28: the store after the request is `storeEffect` of the collaborator's answer. -/
theorem storeSetReplacesKeyWhenOk : Obligations.StoreSetReplacesKeyWhenOk := by
  intro s a b bytes hlen hr
  refine ⟨_, exec_reqStoreSet_answered hr hlen, fun herr => storeEffect_err (r := freeResponse s) herr .., fun hok => ?_⟩
  rw [storeEffect_ok (r := freeResponse s) hok]
  exact ⟨Store.get_set_same .., fun k hk => Store.get_set_other hk ..⟩

/-- Settles O31: the key holds the bytes after the `STORE_SET`, and the `STORE_GET` answers what the store holds. -/
theorem storeGetSeesLastStoreSet : Obligations.StoreGetSeesLastStoreSet := by
  intro s t u a b b' bytes hlen hr hok hset hget
  obtain rfl := Host.Outcome.next.inj ((exec_reqStoreSet_answered hr hlen).symm.trans hset)
  obtain rfl := Host.Outcome.next.inj ((exec_reqStoreGet_answered (by exact hr) a b').symm.trans hget)
  simp [answered, storeEffect_ok (r := freeResponse s) hok, storeResponse]

/-! ## Waiting (R200, R260) -/

theorem reqJoin_unanswered {s : State} (hr : s.ans.ready = false) : reqJoin s = none := by simp [reqJoin, hr]

theorem reqStoreGet_unanswered {s : State} (hr : s.ans.ready = false) (key : Byte) : reqStoreGet key s = none := by
  simp [reqStoreGet, hr]

theorem reqStoreSet_unanswered {s : State} (hr : s.ans.ready = false) (key : Byte) (bytes : List Byte) :
    reqStoreSet key bytes s = none := by simp [reqStoreSet, hr]

theorem reqWakeCfg_unanswered {s : State} (hr : s.ans.ready = false) (arm : BitVec 4) (deep : Bool) (dur : Word) :
    reqWakeCfg arm deep dur s = none := by simp [reqWakeCfg, hr]

theorem probeStep_unanswered {s : State} (hr : s.ans.ready = false) (dev : Byte) (k : BitVec 5) (found absent : State → State) :
    probeStep dev k found absent s = .next s := by
  obtain ⟨-, hwait⟩ | ⟨a, t, hreq, -⟩ := probeStep_cases dev k found absent s
  · exact hwait
  · simp [reqProbe, hr] at hreq

theorem clearStep_unanswered {s : State} (hr : s.ans.ready = false) (c : Channel) (k : BitVec 5) :
    clearStep c k s = .next s := by
  obtain ⟨-, hwait⟩ | ⟨ok, t, hreq, -⟩ := clearStep_cases c k s
  · exact hwait
  · have hclear : (factoryClear c s).ans.ready = false := by simpa [factoryClear, cmdResetTo] using hr
    simp [reqStoreSet_unanswered hclear] at hreq

/-- The requests that have a response. -/
def respondedRequests (a b : Byte) (bytes : List Byte) (d : Word) : List Instr :=
  [.reqJoin a b, .reqStoreGet a b, .reqStoreSet a b bytes, .reqProbe a b, .reqSensorRead a b, .reqBattSample a b,
    .reqWakeCfg a b d]

/-- The micro-steps that begin with a request, whatever the state. -/
def askingMicroSteps : List Instr :=
  [.boot1, .boot2, .join0, .join2, .activeSession2, .activeSession3, .activeSession4, .enterSleep5, .factoryReset0,
    .factoryReset1, .factoryReset2]

theorem exec_request_unanswered {s : State} (hr : s.ans.ready = false) (a b : Byte) (bytes : List Byte) (d : Word) {i : Instr}
    (hi : i ∈ respondedRequests a b bytes d) : exec i s = .next s := by
  simp only [respondedRequests, List.mem_cons, List.not_mem_nil, or_false] at hi
  obtain rfl | rfl | rfl | rfl | rfl | rfl | rfl := hi <;> exact transaction_unanswered hr ..

theorem exec_microStep_unanswered {s : State} (hr : s.ans.ready = false) {i : Instr} (hi : i ∈ askingMicroSteps) :
    exec i s = .next s := by
  simp only [askingMicroSteps, List.mem_cons, List.not_mem_nil, or_false] at hi
  obtain rfl | rfl | rfl | rfl | rfl | rfl | rfl | rfl | rfl | rfl | rfl := hi
  · simp only [exec, execBoot1, reqStoreGet_unanswered hr, hold]
  · simp only [exec, execBoot2, reqStoreGet_unanswered hr, hold]
  · simp only [exec, execJoin0, reqJoin_unanswered hr, hold]
  · simp only [exec, execJoin2, reqStoreSet_unanswered hr, hold]
  · simp only [exec, execActiveSession2, probeStep_unanswered hr]
  · simp only [exec, execActiveSession3, probeStep_unanswered hr]
  · simp only [exec, execActiveSession4, probeStep_unanswered hr]
  · simp only [exec, execEnterSleep5, reqWakeCfg_unanswered hr, hold]
  · simp only [exec, execFactoryReset0, reqStoreSet_unanswered hr, hold]
  · exact clearStep_unanswered hr ..
  · exact clearStep_unanswered hr ..

theorem exec_boot0_unanswered {s : State} (hr : s.ans.ready = false) (hcold : s.aon.wakeCause = 4) :
    exec .boot0 s = .next s := by
  show execBoot0 s = _
  rw [execBoot0, if_pos (show s.aon.wakeCause = coldReset from hcold), reqStoreGet_unanswered hr]
  rfl

/-- Settles O30: the requests, the micro-steps that always begin with one, and `BOOT.0` on a cold reset. -/
theorem unansweredRequestsWait : Obligations.UnansweredRequestsWait := by
  intro s a b bytes d hr
  refine ⟨fun i hi => ?_, exec_boot0_unanswered hr⟩
  obtain hreq | hmicro := List.mem_append.1 (show i ∈ respondedRequests a b bytes d ++ askingMicroSteps from hi)
  · exact exec_request_unanswered hr a b bytes d hreq
  · exact exec_microStep_unanswered hr hmicro

end Sys2Proof.RequestPort
end

section
/-! The micro-steps of `BOOT` that load what is stored (42_power_fsm.md R201, R203; 20_memory.md R88) and of `FACTORY_RESET`
(42_power_fsm.md R246). -/

open Sys2Proof Sys2Proof.Machine Sys2Proof.Claims

namespace Sys2Proof.PowerFsm

/-! ## Decoding what is stored (R88) -/

theorem wordBytes_wordOfBytes (b0 b1 b2 b3 : Byte) : wordBytes (wordOfBytes b0 b1 b2 b3) = [b0, b1, b2, b3] := by
  obtain ⟨h0, h1, h2, h3⟩ := Encoding.wordOfBytes_lanes b0 b1 b2 b3
  rw [wordBytes, h0, h1, h2, h3]

theorem takeWord_eq_some_iff {bytes rest : List Byte} {w : Word} :
    takeWord bytes = some (w, rest) ↔ bytes = wordBytes w ++ rest := by
  constructor
  · intro h
    unfold takeWord at h
    split at h <;> cases h
    rw [wordBytes_wordOfBytes]
    rfl
  · rintro rfl
    exact takeWord_wordBytes w rest

theorem le64_append (hi lo : Word) : le64 (hi ++ lo) = wordBytes lo ++ wordBytes hi := by
  rw [le64, show (hi ++ lo).extractLsb' 0 32 = lo from BitVec.extractLsb'_append_eq_right,
    show (hi ++ lo).extractLsb' 32 32 = hi from BitVec.extractLsb'_append_eq_left]

/-- R87: a 64-bit value is taken off exactly the byte strings that begin with its eight bytes. -/
theorem takeDWord_eq_some_iff {bytes rest : List Byte} {v : DWord} :
    takeDWord bytes = some (v, rest) ↔ bytes = le64 v ++ rest := by
  constructor
  · intro h
    unfold takeDWord at h
    split at h
    · cases h
    next lo mid hlo =>
      split at h <;> cases h
      next hi hhi =>
        rw [takeWord_eq_some_iff.1 hlo, takeWord_eq_some_iff.1 hhi, le64_append, List.append_assoc]
  · rintro rfl
    exact takeDWord_le64 v rest

theorem eq_le64_of_length {bytes : List Byte} (h : bytes.length = 8) : ∃ v, bytes = le64 v := by
  match bytes, h with
  | [b0, b1, b2, b3, b4, b5, b6, b7], _ =>
    exact ⟨wordOfBytes b4 b5 b6 b7 ++ wordOfBytes b0 b1 b2 b3, by
      rw [le64_append, wordBytes_wordOfBytes, wordBytes_wordOfBytes]; rfl⟩

/-- Bytes that are not eight load as 0. -/
theorem decodeTotal_of_length_ne {bytes : List Byte} (h : bytes.length ≠ 8) : decodeTotal (some bytes) = 0 := by
  unfold decodeTotal
  dsimp only
  split
  next v hv =>
    rw [takeDWord_eq_some_iff.1 hv] at h
    simp at h
  next => rfl

theorem decodeTotal_loaded (stored : Option (List Byte)) : LoadedTotal stored (decodeTotal stored) := by
  cases stored with
  | none => exact .inr ⟨nofun, rfl⟩
  | some bytes =>
    by_cases hlen : bytes.length = 8
    · obtain ⟨w, rfl⟩ := eq_le64_of_length hlen
      exact .inl ⟨w, rfl, decodeTotal_le64 w⟩
    · exact .inr ⟨fun _ h => Option.some.inj h ▸ hlen, decodeTotal_of_length_ne hlen⟩

theorem decodeAssoc_eq (stored : Option (List Byte)) : decodeAssoc stored = decide (stored = some [0x01]) := by
  match stored with
  | none => rfl
  | some [] => rfl
  | some [b] => simp [decodeAssoc, beq_eq_decide]
  | some (b :: b' :: rest) => simp [decodeAssoc]

/-! ## The stored totals and association (R201, R203) -/

theorem reqStoreGet_answered {s : State} (hr : s.ans.ready = true) (key : Byte) :
    reqStoreGet key s = some (Store.get key.toNat s.ds,
      answered (requestHeader .storeGet key 0) [] (storeResponse (Store.get key.toNat s.ds)) s) := by
  rw [reqStoreGet, transact_answered hr, storeEffect_of_ne (by decide), RequestPort.responseTo_storeGet]
  cases Store.get key.toNat s.ds <;> rfl

theorem exec_boot0_of_retained {s : State} (h : s.aon.wakeCause ≠ 4) : exec .boot0 s = .next (atStep 0 3 s) := if_neg h

theorem exec_boot0_answered {s : State} (hr : s.ans.ready = true) (h : s.aon.wakeCause = 4) :
    exec .boot0 s = .next (atStep 0 1 (answered 0x00000103 [] (storeResponse (Store.get 0x01 s.ds))
      (s.setAcc .rain (resetBank (decodeTotal (Store.get 0x01 s.ds)) s.aon.rain)))) := by
  show execBoot0 s = _
  rw [execBoot0, if_pos (show s.aon.wakeCause = coldReset from h), reqStoreGet_answered hr]
  rfl

theorem exec_boot1_answered {s : State} (hr : s.ans.ready = true) :
    exec .boot1 s = .next (atStep 0 2 (answered 0x00000203 [] (storeResponse (Store.get 0x02 s.ds))
      (s.setAcc .wind (resetBank (decodeTotal (Store.get 0x02 s.ds)) s.aon.wind)))) := by
  show execBoot1 s = _
  rw [execBoot1, reqStoreGet_answered hr]
  rfl

theorem exec_boot2_answered {s : State} (hr : s.ans.ready = true) :
    exec .boot2 s = .next (atStep 0 3 (answered 0x00001003 [] (storeResponse (Store.get 0x10 s.ds))
      { s with main := { s.main with assocStored := decide (Store.get 0x10 s.ds = some [0x01]) } })) := by
  rw [← decodeAssoc_eq]
  show execBoot2 s = _
  rw [execBoot2, reqStoreGet_answered hr]
  rfl

/-- Settles O38: the answered steps, with the stored total decoded as `decodeTotal_loaded` says. -/
theorem bootLoadsStoredState : Obligations.BootLoadsStoredState := by
  intro s
  exact ⟨exec_boot0_of_retained, fun hcold hr => ⟨_, decodeTotal_loaded _, exec_boot0_answered hr hcold⟩,
    fun hr => ⟨_, decodeTotal_loaded _, exec_boot1_answered hr⟩, exec_boot2_answered⟩

/-! ## The factory reset (R246) -/

/-- R246: a channel's bank once it is cleared at `time`. -/
def clearedBank (time : DWord) (a : AccBank) : AccBank :=
  { resetBank 0 a with pending := 0, winCount := 0, winStart := time, lastRate := 0 }

theorem factoryClear_eq (c : Channel) (s : State) : factoryClear c s = s.setAcc c (clearedBank s.aon.time (s.acc c)) := by
  cases c <;> rfl

theorem exec_factoryReset0_answered {s : State} (hr : s.ans.ready = true) :
    exec .factoryReset0 s = .next (atStep 6 1 (afterStoreSet keyAssoc [0x00] s)) := by
  show execFactoryReset0 s = _
  rw [execFactoryReset0, reqStoreSet_answered hr]
  rfl

theorem clearStep_answered {s : State} (hr : s.ans.ready = true) (c : Channel) (k : BitVec 5) :
    clearStep c k s = .next (atStep 6 k ((afterStoreSet (keyTotal c) (le64 0) s).setAcc c
      (clearedBank s.aon.time (s.acc c)))) := by
  rw [clearStep, factoryClear_eq, reqStoreSet_answered (by simpa using hr)]
  cases c <;> rfl

/-- What an answered `STORE_SET` of a cleared value leaves in the store. -/
theorem afterStoreSet_store (key : Byte) (bytes : List Byte) (s : State) :
    (s.ans.status ≠ 0 → (afterStoreSet key bytes s).ds = s.ds) ∧
      (s.ans.status = 0 → Store.get key.toNat (afterStoreSet key bytes s).ds = some bytes ∧
        ∀ k, k ≠ key.toNat → Store.get k (afterStoreSet key bytes s).ds = Store.get k s.ds) :=
  ⟨fun herr => by rw [afterStoreSet_of_err herr]; rfl, fun hok => get_afterStoreSet_of_ok hok key bytes⟩

theorem clearLatch_button (pend : BitVec 4) : clearLatch .button pend = pend &&& 0b0111 := rfl

theorem exec_factoryReset3 (s : State) :
    exec .factoryReset3 s = .next { s with
      aon := { s.aon with frstPend := false, joinPending := true, wakePend := s.aon.wakePend &&& 0b0111 }
      main := mainAfterReset } := rfl

/-- Settles O60: the three clearing steps write the store as `afterStoreSet_store` says, and the last one restarts. -/
theorem factoryResetClears : Obligations.FactoryResetClears := by
  intro s
  refine ⟨fun hr => ⟨⟨_, exec_factoryReset0_answered hr, afterStoreSet_store keyAssoc [0x00] s⟩, fun p hp => ?_⟩,
    exec_factoryReset3 s⟩
  simp only [List.mem_cons, List.not_mem_nil, or_false] at hp
  obtain rfl | rfl := hp
  case inl => exact ⟨_, clearStep_answered hr .rain 2, afterStoreSet_store (keyTotal .rain) (le64 0) s⟩
  case inr => exact ⟨_, clearStep_answered hr .wind 3, afterStoreSet_store (keyTotal .wind) (le64 0) s⟩

end Sys2Proof.PowerFsm
end

section
/-! The battery sample and the reports of the session (42_power_fsm.md R214, R216, R219 to R223), and the fast path's flush and
report (R243, R245). -/

open Sys2Proof Sys2Proof.Machine Sys2Proof.Claims

namespace Sys2Proof.PowerFsm

/-! ## The battery sample (R214, R216) -/

theorem battDue_iff {s : State} : battDue s = true ↔ BattDue s := by simp [battDue, BattDue]

theorem reqBattSample_answered {s : State} (hr : s.ans.ready = true) :
    reqBattSample s = some (if statusOk (freeResponse s) then some (s.ans.data.setWidth 32) else none,
      answered 0x00000007 [] (freeResponse s) s) := by
  rw [reqBattSample, transact_answered hr, storeEffect_of_ne (by decide), BitVec.setWidth_eq_extractLsb' (by decide)]
  rfl

theorem exec_activeSession7_of_not_due {s : State} (h : ¬BattDue s) : exec .activeSession7 s = .next (atStep 2 8 s) :=
  if_neg (battDue_iff.not.2 h)

theorem exec_activeSession7_unanswered {s : State} (h : BattDue s) (hr : s.ans.ready = false) :
    exec .activeSession7 s = .next s := by
  show execActiveSession7 s = _
  rw [execActiveSession7, if_pos (battDue_iff.2 h), reqBattSample, transact_unanswered hr]
  rfl

theorem exec_activeSession7_answered {s : State} (h : BattDue s) (hr : s.ans.ready = true) :
    exec .activeSession7 s = .next (atStep 2 8 (recordSample
      (if statusOk (freeResponse s) then some (s.ans.data.setWidth 32) else none)
      (answered 0x00000007 [] (freeResponse s) s))) := by
  show execActiveSession7 s = _
  rw [execActiveSession7, if_pos (battDue_iff.2 h), reqBattSample_answered hr]
  rfl

/-- Settles O46: without a due sample the step goes on; with one it waits, or records what the answer gives. -/
theorem batterySampledWhenDue : Obligations.BatterySampledWhenDue := by
  intro s
  refine ⟨exec_activeSession7_of_not_due, exec_activeSession7_unanswered, fun hdue hr herr => ?_, fun hdue hr hok => ?_⟩
  · rw [exec_activeSession7_answered hdue hr, statusOk_freeResponse_eq_false_iff.2 herr]
    rfl
  · rw [exec_activeSession7_answered hdue hr, statusOk_freeResponse_iff.2 hok]
    rfl

/-! ## Reporting a total (R219, R220, R245) -/

/-- R218: a total's report and its acknowledgement, when one is owed. -/
theorem reportTotal_of_owed (c : Channel) {s : State} (h : (s.acc c).reportReq = true) :
    reportTotal c s = asked (requestHeader .report (if channelBit c then 1 else 0) 0) (le64 (s.acc c).total)
      (s.setAcc c { s.acc c with reportReq := false, sinceRpt := 0 }) := by
  rw [reportTotal, if_pos h]
  cases c <;> rfl

theorem reportTotal_of_not_owed (c : Channel) {s : State} (h : (s.acc c).reportReq = false) : reportTotal c s = s := by
  simp [reportTotal, h]

theorem exec_activeSession11 (s : State) : exec .activeSession11 s = .next (atStep 2 12 (reportTotal .rain s)) := rfl

theorem exec_activeSession12 (s : State) : exec .activeSession12 s = .next (atStep 2 13 (reportTotal .wind s)) := rfl

theorem exec_activeSession17 (s : State) :
    exec .activeSession17 s = .next (atStep 2 18
      (if s.main.battNew then asked 0x00000602 (le64 (s.aon.battMv.setWidth 64)) s else s)) := rfl

theorem exec_activeSession18 (s : State) :
    exec .activeSession18 s = .next (atStep 2 19
      (if s.main.battNew then asked 0x00000702 (le64 (s.aon.battPct.setWidth 64)) s else s)) := rfl

/-- Settles O49: the two totals by `reportTotal`, the rate and the sensor values outright, the battery by `BATT_NEW`. -/
theorem sessionReports : Obligations.SessionReports := by
  intro s
  refine ⟨fun h => ?_, fun h => ?_, fun h => ?_, fun h => ?_, rfl, rfl, rfl, rfl, fun h => ?_, fun h => ?_, fun h => ?_,
    fun h => ?_⟩
  · rw [exec_activeSession11, reportTotal_of_owed .rain h]
    rfl
  · rw [exec_activeSession11, reportTotal_of_not_owed .rain h]
  · rw [exec_activeSession12, reportTotal_of_owed .wind h]
    rfl
  · rw [exec_activeSession12, reportTotal_of_not_owed .wind h]
  · rw [exec_activeSession17, if_pos h]
  · rw [exec_activeSession17, if_neg (Bool.eq_false_iff.1 h)]
  · rw [exec_activeSession18, if_pos h]
  · rw [exec_activeSession18, if_neg (Bool.eq_false_iff.1 h)]

/-! ## The fast path (R243, R245) -/

theorem exec_wake2 (s : State) : exec .wake2 s = .next (atStep 5 3 (cmdFlush (wokenChannel s) s).2) := rfl

theorem exec_wake3 (s : State) : exec .wake3 s = .next (atStep 3 0 (reportTotal (wokenChannel s) s)) := rfl

/-- Settles O59: both steps work on `wokenChannel`, whose number is the report's. -/
theorem fastPathServesOneChannel : Obligations.FastPathServesOneChannel := by
  intro s
  have hnumber : (if channelBit (wokenChannel s) then 1 else 0 : Byte) = if s.aon.wakeCause = 1 then 0 else 1 := by
    unfold wokenChannel
    split_ifs <;> simp_all [channelBit, WakeSrc.code]
  refine ⟨⟨_, flush_flushes .., ?_⟩, fun h => ?_, fun h => ?_⟩
  · rw [exec_wake2, cmdFlush_state]
    rfl
  · rw [exec_wake3, reportTotal_of_owed (wokenChannel s) h, hnumber]
    rfl
  · rw [exec_wake3, reportTotal_of_not_owed (wokenChannel s) h]

end Sys2Proof.PowerFsm
end

section
/-! The micro-steps that arm the plan and suspend, and the end of a suspension (42_power_fsm.md R235 to R240). -/

open Sys2Proof Sys2Proof.Machine Sys2Proof.Claims

namespace Sys2Proof.PowerFsm

/-! ## Arming (R235, R236) -/

/-- R235: the header of the request that arms a plan. -/
def armHeader (s : State) : Word :=
  (0 : Byte) ++ (if s.main.planRetain then 0 else 1 : Byte) ++ s.main.planArm.setWidth 8 ++ (0x08 : Byte)

/-- The state once the plan has been offered to the wake platform and answered. -/
def armAnswered (s : State) : State := answered (armHeader s) (wordBytes s.main.sleepDur) (freeResponse s) s

theorem reqWakeCfg_answered {s : State} (hr : s.ans.ready = true) :
    reqWakeCfg s.main.planArm (!s.main.planRetain) s.main.sleepDur s = some (statusOk (freeResponse s), armAnswered s) := by
  rw [reqWakeCfg, transact_answered hr, storeEffect_of_ne (by decide), armAnswered, armHeader]
  cases s.main.planRetain <;> rfl

/-- R235: the two answers of the wake platform. -/
theorem exec_enterSleep5_answered {s : State} (hr : s.ans.ready = true) :
    exec .enterSleep5 s = .next (if statusOk (freeResponse s) then
        atStep 3 7 { armAnswered s with aon := { s.aon with wakeArm := s.main.planArm } }
      else atStep 3 6 { armAnswered s with main := { s.main with
        waitUntil := sat64 (s.aon.time.toNat + s.cfg.armRetryDelay.toNat) } }) := by
  show execEnterSleep5 s = _
  rw [execEnterSleep5, reqWakeCfg_answered hr]
  rfl

theorem exec_enterSleep6 (s : State) :
    exec .enterSleep6 s = if s.main.waitUntil.toNat ≤ s.aon.time.toNat then .next (atStep 3 4 s) else .next s := rfl

/-- Settles O54: the branches of `exec_enterSleep5_answered` and `exec_enterSleep6`. -/
theorem armingOrRetry : Obligations.ArmingOrRetry := by
  intro s
  refine ⟨fun hr hok => ?_, fun hr herr => ?_, fun hdone => ?_, fun hwait => ?_⟩
  · exact (exec_enterSleep5_answered hr).trans (congrArg _ (if_pos (statusOk_freeResponse_iff.2 hok)))
  · exact (exec_enterSleep5_answered hr).trans (congrArg _ (if_neg (statusOk_freeResponse_iff.not.2 herr)))
  · exact (exec_enterSleep6 s).trans (if_pos hdone)
  · exact (exec_enterSleep6 s).trans (if_neg (Nat.not_le.2 hwait))

/-! ## The suspension (R237) -/

/-- R237: the state in which the race check is made. -/
def fastPathOnly (s : State) : State := { s with main := { s.main with fullPath := false } }

theorem exec_enterSleep7 (s : State) :
    exec .enterSleep7 s = .next (if s.aon.wakePend &&& s.aon.wakeArm ≠ 0 then atStep 5 0 (fastPathOnly s)
      else suspend (!s.main.planRetain) (fastPathOnly s)) := rfl

/-- Settles O55: an armed latch leads to `WAKE.0`, else the two variants of `suspend`. -/
theorem raceCheckThenSuspend : Obligations.RaceCheckThenSuspend := by
  intro s
  refine ⟨fun hset => ?_, fun hnone hlight => ?_, fun hnone hdeep => ?_⟩
  · rw [exec_enterSleep7, if_pos hset]
    rfl
  · rw [exec_enterSleep7, if_neg (not_not.2 hnone), hlight, Bool.not_true, suspend_light]
    rfl
  · rw [exec_enterSleep7, if_neg (not_not.2 hnone), hdeep, Bool.not_false, suspend_deep]
    rfl

/-! ## The end of a suspension (R240, R341, R342) -/

/-- R240: the block awake, every register kept. -/
def awake (s : State) : State := { s with aon := { s.aon with asleep := false } }

theorem exec_sleeping0 (s : State) :
    exec .sleeping0 s = .next (if armedPending s ≠ 0 then
        if s.aon.lastVariant then { served (armedPending s) (awake s) with main := mainAfterReset } else atStep 5 0 (awake s)
      else s) := by
  rw [served_eq_dispatchWake]
  show execSleeping0 s = _
  simp only [execSleeping0]
  split_ifs <;> rfl

/-- Settles O56: the branches of `exec_sleeping0`. -/
theorem suspensionEndsOnArmedLatch : Obligations.SuspensionEndsOnArmedLatch := by
  intro s
  refine ⟨fun hnone => ?_, fun hset hlight => ?_, fun hset hdeep => ?_⟩
  · exact (exec_sleeping0 s).trans (congrArg _ (if_neg (not_not.2 hnone)))
  · rw [exec_sleeping0, if_pos (show armedPending s ≠ 0 from hset), if_neg (Bool.eq_false_iff.1 hlight)]
    rfl
  · rw [exec_sleeping0, if_pos (show armedPending s ≠ 0 from hset), if_pos hdeep]
    rfl

end Sys2Proof.PowerFsm
end

section
/-! The step and the clock edge (20_memory.md R89; 42_power_fsm.md R200), the launch, the reset and the inputs that are plain levels
or edges (60_exceptions.md R312, R313; 43_interfaces.md R281; 70_reset_and_hazards.md R340). -/

open Sys2Proof Sys2Proof.Machine Sys2Proof.Claims

namespace Sys2Proof.Cycle

/-! ## One step (R6, R89) -/

theorem step_of_fetch {s : State} {slot : Slot} {rest : List Slot} {i : Instr} (hcfg : cfgValid s.cfg = true)
    (ha : s.agenda = slot :: rest) (hf : fetch slot { s with agenda := rest } = .ok i) :
    step s = exec i { s with agenda := rest } := by
  rw [step, if_pos hcfg, ha]
  show runSlot slot _ = _
  rw [runSlot, hf]

theorem step_of_done {s : State} (hcfg : cfgValid s.cfg = true) (ha : s.agenda = []) : step s = .next (openCycle s) := by
  rw [step, if_pos hcfg, ha]

/-- Settles O1. -/
theorem stepRunsDecodedInstruction : Obligations.StepRunsDecodedInstruction := fun _ _ _ _ => step_of_fetch

theorem run_succ {s t : State} (h : step s = .next t) (k : Nat) : Sys2Proof.core.run (k + 1) s = Sys2Proof.core.run k t := by
  simp only [Host.Core.run, show Sys2Proof.core.step s = .next t from h]

/-! ## The clock edge (R89, R200) -/

/-- R116: the stimulus words of the sampled levels. -/
theorem stimulusWord_level (l : Bool) :
    stimulusWord 0x02 l = (if l then 0x102 else 0x002) ∧ stimulusWord 0x03 l = (if l then 0x103 else 0x003) ∧
      stimulusWord 0x04 l = (if l then 0x104 else 0x004) ∧ stimulusWord 0x05 l = (if l then 0x105 else 0x005) ∧
      stimulusWord 0x06 l = (if l then 0x106 else 0x006) ∧ stimulusWord 0x07 l = (if l then 0x107 else 0x007) := by
  cases l <;> decide

theorem nextInputs_eq (s : State) : nextInputs s = s.inq.headD (Config.freeCycle s.cycle) := by
  unfold nextInputs
  cases s.inq <;> rfl

/-- R89: the agenda of a cycle in the words of R116. -/
theorem cycleAgenda_eq (en : Bool) (c : CycleIn) :
    cycleAgenda en c = [Slot.evt (if c.assoc then 0x105 else 0x005), Slot.evt (if c.idle then 0x106 else 0x006)] ++
      (if c.por then [Slot.evt 0x008]
      else c.bus.toList.map Slot.bus ++ (if en then [Slot.fsm] else []) ++
        [Slot.evt (if c.rain then 0x102 else 0x002), Slot.evt (if c.wind then 0x103 else 0x003),
          Slot.evt (if c.btn then 0x104 else 0x004), Slot.evt (if c.factory then 0x107 else 0x007)] ++
        (if c.tick then [Slot.evt 0x001] else [])) := by
  obtain ⟨hrain, -, -, -, -, -⟩ := stimulusWord_level c.rain
  obtain ⟨-, hwind, -, -, -, -⟩ := stimulusWord_level c.wind
  obtain ⟨-, -, hbtn, -, -, -⟩ := stimulusWord_level c.btn
  obtain ⟨-, -, -, hassoc, -, -⟩ := stimulusWord_level c.assoc
  obtain ⟨-, -, -, -, hidle, -⟩ := stimulusWord_level c.idle
  obtain ⟨-, -, -, -, -, hfactory⟩ := stimulusWord_level c.factory
  have hpor : stimulusWord 0x08 false = 0x008 := by decide
  have htick : stimulusWord 0x01 false = 0x001 := by decide
  rw [cycleAgenda, hrain, hwind, hbtn, hassoc, hidle, hfactory, hpor, htick]
  cases c.por <;> cases c.bus <;> simp

/-- Settles O2: the clock edge is `openCycle`, its agenda `cycleAgenda_eq`. -/
theorem clockEdgeLaysOutCycle : Obligations.ClockEdgeLaysOutCycle := by
  intro s hcfg hdone
  rw [step_of_done hcfg hdone]
  show _ = Host.Outcome.next _
  rw [← nextInputs_eq, ← cycleAgenda_eq]
  rfl

/-! ## Launch and reset (R340, R347) -/

/-- R9: the bounds that the invariants read. -/
theorem cfgValid_bounds {g : Cfg} (h : cfgValid g = true) :
    1 ≤ g.joinAttempts.toNat ∧ g.battLoMv.toNat < g.battHiMv.toNat := by
  simp only [cfgValid, Bool.and_eq_true, decide_eq_true_eq] at h
  obtain ⟨⟨⟨⟨⟨⟨hjoin, -⟩, -⟩, -⟩, hbatt⟩, -⟩, -⟩ := h
  exact ⟨hjoin, hbatt⟩

theorem pcCode_launch (g : Cfg) (ds : Store) (inq : List CycleIn) : pcCode (State.launch g ds inq) = 0x00 := by
  show microStepCode 0 0 = 0x00
  decide

/-- Settles O6: at launch the program counter is `BOOT.0`, nothing is decided, counted or suspended, and the agenda is empty. -/
theorem launchIsLegal : Obligations.LaunchIsLegal := by
  intro g ds inq hcfg hstore
  obtain ⟨hjoin, -⟩ := cfgValid_bounds hcfg
  refine ⟨⟨hcfg, by rw [pcCode_launch]; decide, rfl, Nat.le_refl 4, rfl, Nat.zero_le _, nofun, nofun, hstore, rfl⟩, ?wake, ?identifies, ?join, rfl⟩
  case wake =>
    rw [WakeGuaranteed, pcCode_launch]
    exact ⟨nofun, nofun, nofun, nofun⟩
  case identifies =>
    intro _
    rfl
  case join => exact ⟨Nat.zero_le _, fun _ => hjoin⟩

/-- Settles O15: the cold values are those of `Aon.cold` and `Main.cold`. -/
theorem coldResetValues : Obligations.ColdResetValues := ⟨fun _ _ => rfl, rfl, rfl, rfl⟩

/-! ## The button, the factory command and the radio levels (R281, R312, R313) -/

theorem exec_evtInBtn (v : Bool) (s : State) :
    exec (.evtInBtn v) s = .next (if (s.aon.bsync.shift v).rising then
        { s with aon := { s.aon with
          bsync := s.aon.bsync.shift v, btnPress := s.aon.time, wakePend := s.aon.wakePend ||| 0b1000 } }
      else { s with aon := { s.aon with bsync := s.aon.bsync.shift v } }) := rfl

theorem exec_evtInFactory (v : Bool) (s : State) :
    exec (.evtInFactory v) s = .next (if (s.aon.fsync.shift v).rising then
        { s with aon := { s.aon with fsync := s.aon.fsync.shift v, frstPend := true } }
      else { s with aon := { s.aon with fsync := s.aon.fsync.shift v } }) := rfl

theorem shift_of_edge {y : Sync} (h : y.s1 = true ∧ y.s2 = false) (v : Bool) : y.shift v = ⟨v, true, false⟩ := by
  rw [Sync.shift, h.1, h.2]

/-- Settles O18: the edge test of both inputs is `rising_shift_iff`. -/
theorem buttonFactoryAndRadioInputs : Obligations.ButtonFactoryAndRadioInputs := by
  intro s v
  refine ⟨rfl, rfl, fun h => ?_, fun h => ?_, fun h => ?_, fun h => ?_⟩
  · rw [exec_evtInBtn, if_pos (EdgeSampling.rising_shift_iff.2 h), shift_of_edge h]
  · rw [exec_evtInBtn, if_neg (EdgeSampling.rising_shift_iff.not.2 h)]
    rfl
  · rw [exec_evtInFactory, if_pos (EdgeSampling.rising_shift_iff.2 h), shift_of_edge h]
  · rw [exec_evtInFactory, if_neg (EdgeSampling.rising_shift_iff.not.2 h)]
    rfl

end Sys2Proof.Cycle
end

section
/-! The seven commands as the bus issues them (41_accumulator.md R160 to R177): what each records in manual mode, its refusal in
autonomous mode, and how a flush and an edge of the same cycle share the pending count. -/

open Sys2Proof Sys2Proof.Machine Sys2Proof.Claims

namespace Sys2Proof.Commands

/-! ## Issue and refusal (R103, R160) -/

theorem issued_manual {s : State} (h : s.cycEn = false) (opc : Byte) (res : Results) (after : State) :
    issued opc res after s = .next (commandDone opc res after) := by
  rw [issued, h]
  rfl

theorem issued_autonomous {s : State} (h : s.cycEn = true) (opc : Byte) (res : Results) (after : State) :
    issued opc res after s = .next { s with main := { s.main with cmdErr := true, cmdErrCode := 3 } } := if_pos h

/-- Settles O22: every command is issued through the one check of `issued`. -/
theorem commandsRejectedInAutonomousMode : Obligations.CommandsRejectedInAutonomousMode := by
  intro i s hf hauto
  cases i <;> simp only [formatOf, reduceCtorEq] at hf
  all_goals exact issued_autonomous hauto ..

/-! ## The results of the commands (R163 to R174) -/

theorem extractLsb'_low (v : DWord) : v.extractLsb' 0 32 = v.setWidth 32 :=
  (BitVec.setWidth_eq_extractLsb' (by decide)).symm

theorem extractLsb'_high (v : DWord) : v.extractLsb' 32 32 = (v >>> 32).setWidth 32 :=
  BitVec.setWidth_ushiftRight_eq_extractLsb.symm

/-- Settles O19: the five commands in manual mode; `READ_TOTAL`'s halves are the two 32-bit halves of the total. -/
theorem plainCommandResults : Obligations.PlainCommandResults := by
  intro s c hman
  refine ⟨issued_manual hman .., ?readTotal, issued_manual hman .., issued_manual hman .., issued_manual hman ..⟩
  case readTotal =>
    rw [← extractLsb'_low, ← extractLsb'_high]
    exact issued_manual hman ..

/-- R163: the bank that a flush of channel `c` leaves. -/
def flushedBank (c : Channel) (s : State) : AccBank := (s.acc c).flush (unitOf s.cfg c) (threshOf s.cfg c)

theorem flushedBank_flushes (c : Channel) (s : State) :
    Flushes (unitOf s.cfg c) (threshOf s.cfg c) (s.acc c) (flushedBank c s) := PowerFsm.flush_flushes ..

theorem exec_flush_manual {s : State} (h : s.cycEn = false) (c : Channel) :
    exec (.flush c) s = .next (commandDone 0x02 ⟨(s.acc c).pending, 0, 0, 0, 0, 0⟩ (s.setAcc c (flushedBank c s))) :=
  issued_manual h ..

/-- Settles O20: `exec_flush_manual`, the bank flushed as `flush_flushes` says. -/
theorem flushSwapsAndMerges : Obligations.FlushSwapsAndMerges :=
  fun s c hman => ⟨flushedBank c s, flushedBank_flushes c s, exec_flush_manual hman c⟩

/-- R172: what `SAMPLE_RATE` returns, from the flushed bank and the window's old start. -/
theorem cmdSampleRate_sample (c : Channel) (s : State) :
    (cmdSampleRate c s).1 = ⟨(s.acc c).pending, (flushedBank c s).winCount, s.aon.time - (s.acc c).winStart,
      rate (flushedBank c s).winCount (unitOf s.cfg c) (s.aon.time - (s.acc c).winStart)⟩ := by
  simp only [cmdSampleRate, PowerFsm.cmdFlush_state, State.acc_setAcc, State.setAcc_aon_time, State.setAcc_cfg,
    PowerFsm.flush_winStart]
  rfl

/-- Settles O21: the sample is `cmdSampleRate_sample`, the state `cmdSampleRate_state`. -/
theorem sampleRateComputesRate : Obligations.SampleRateComputesRate := by
  intro s c hman
  refine ⟨flushedBank c s, _, flushedBank_flushes c s, PowerFsm.rate_isRate .., ?_⟩
  show execSampleRate c s = _
  rw [execSampleRate, issued_manual hman, cmdSampleRate_sample, PowerFsm.cmdSampleRate_state]
  simp only [extractLsb'_low, extractLsb'_high]
  rfl

/-! ## Flushing twice, and the conserved count (R175, R177) -/

theorem not_max32_lt (w : Word) : ¬max32 < w.toNat := Nat.not_lt.2 (Nat.le_sub_one_of_lt w.isLt)

theorem not_max64_lt (v : DWord) : ¬max64 < v.toNat := Nat.not_lt.2 (Nat.le_sub_one_of_lt v.isLt)

theorem sat32_toNat_self (w : Word) : sat32 w.toNat = w := by
  apply BitVec.eq_of_toNat_eq
  rw [sat32_toNat, Nat.min_eq_left (Nat.not_lt.1 (not_max32_lt w))]

/-- R177: a flush of a bank with nothing pending changes nothing. -/
theorem flush_of_pending_zero {a : AccBank} (h : a.pending = 0) (u t : Word) : a.flush u t = a := by
  obtain ⟨total, pending⟩ := a
  obtain rfl : pending = 0 := h
  simp [AccBank.flush, AccBank.merge, AccBank.addTotal, AccBank.addSinceRpt, AccBank.raiseReport, AccBank.addDurEdges,
    AccBank.addWinCount, sat32_toNat_self, not_max32_lt, not_max64_lt]

theorem flushedBank_pending (c : Channel) (s : State) : (flushedBank c s).pending = 0 := by
  obtain ⟨hpending, -⟩ := flush_fields (unitOf s.cfg c) (threshOf s.cfg c) (s.acc c)
  exact hpending

theorem exec_flush_of_pending_zero {s : State} (hman : s.cycEn = false) {c : Channel} (h : (s.acc c).pending = 0) :
    exec (.flush c) s = .next (commandDone 0x02 ⟨0, 0, 0, 0, 0, 0⟩ s) := by
  rw [exec_flush_manual hman, flushedBank, flush_of_pending_zero h, State.setAcc_acc, h]

theorem acc_commandDone (opc : Byte) (res : Results) (c : Channel) (s : State) : (commandDone opc res s).acc c = s.acc c := by
  cases c <;> rfl

/-- Settles O24: the first flush leaves nothing pending. -/
theorem secondFlushReturnsZero : Obligations.SecondFlushReturnsZero := by
  intro s t c hman hstep
  obtain rfl := Host.Outcome.next.inj ((exec_flush_manual hman c).symm.trans hstep)
  apply exec_flush_of_pending_zero
  · exact (State.setAcc_cycEn ..).trans hman
  · rw [acc_commandDone, State.acc_setAcc, flushedBank_pending]

/-- Settles O26: the merge is exact unless it sets `TOTAL_SAT`. -/
theorem flushConservesCount : Obligations.FlushConservesCount := by
  intro s t c hstep hsat
  cases hman : s.cycEn with
  | true =>
    obtain rfl := Host.Outcome.next.inj ((issued_autonomous hman ..).symm.trans hstep)
    cases c <;> rfl
  | false =>
    obtain rfl := Host.Outcome.next.inj ((exec_flush_manual hman c).symm.trans hstep)
    rw [acc_commandDone, State.acc_setAcc] at hsat ⊢
    obtain ⟨hpending, htotal, hsatIff, -⟩ := flushedBank_flushes c s
    have hexact : ¬2 ^ 64 - 1 < (s.acc c).total.toNat + (s.acc c).pending.toNat := fun h => by
      rw [hsatIff.2 (.inr h)] at hsat
      cases hsat
    rw [htotal, hpending, Nat.min_eq_left (Nat.not_lt.1 hexact)]
    rfl

/-! ## An edge in the cycle of a flush (R162, R351) -/

/-- The agenda of a flush of `c` and then a sample of its input at level `v`. -/
def flushThenSample (c : Channel) (v : Bool) : List Slot :=
  match c with
  | .rain => [.cmd 0x00000002, .evt (if v then 0x102 else 0x002)]
  | .wind => [.cmd 0x00000102, .evt (if v then 0x103 else 0x003)]

/-- The state that a flush of `c` leaves in manual mode. -/
def flushed (c : Channel) (s : State) : State :=
  commandDone 0x02 ⟨(s.acc c).pending, 0, 0, 0, 0, 0⟩ (s.setAcc c (flushedBank c s))

theorem acc_flushed (c : Channel) (s : State) : (flushed c s).acc c = flushedBank c s := by
  rw [flushed, acc_commandDone, State.acc_setAcc]

/-- The two steps of the cycle: the flush, then the sample on the state it leaves. -/
theorem run_flushThenSample {s : State} {c : Channel} {v : Bool} {rest : List Slot} (hcfg : cfgValid s.cfg = true)
    (hman : s.cycEn = false) (ha : s.agenda = flushThenSample c v ++ rest) :
    Sys2Proof.core.run 2 s = .next (sampleChannel c v (flushed c { s with agenda := rest })) := by
  obtain ⟨w, e, i, hslots, hcmd, hevt, hsample⟩ : ∃ w e i, flushThenSample c v = [.cmd w, .evt e] ∧
      decodeCmd w = .ok (.flush c) ∧ decodeEvt e = .ok i ∧ ∀ u, exec i u = .next (sampleChannel c v u) := by
    cases c <;> cases v <;> exact ⟨_, _, _, rfl, rfl, rfl, fun _ => rfl⟩
  rw [hslots] at ha
  have hflush : step s = .next (flushed c { s with agenda := .evt e :: rest }) :=
    (Cycle.step_of_fetch (rest := .evt e :: rest) hcfg ha hcmd).trans
      (exec_flush_manual (s := { s with agenda := .evt e :: rest }) hman c)
  have hedge : step (flushed c { s with agenda := .evt e :: rest }) =
      .next (sampleChannel c v (flushed c { s with agenda := rest })) := by
    rw [Cycle.step_of_fetch (slot := .evt e) (rest := rest) (by cases c <;> exact hcfg) (by cases c <;> rfl) hevt, hsample]
    cases c <;> rfl
  rw [Cycle.run_succ hflush, Cycle.run_succ hedge]
  rfl

/-- A flush moves no input of the edge test. -/
theorem edgeAccepted_flushedBank {s : State} {c : Channel}
    (h : EdgeSampling.EdgeAccepted (refractOf s.cfg c) s.aon.time (s.acc c)) :
    EdgeSampling.EdgeAccepted (refractOf s.cfg c) s.aon.time (flushedBank c s) := by
  obtain ⟨-, -, -, -, -, -, -, -, hlastEdge, harmed, hleValid, -, -, -, hsync⟩ := flushedBank_flushes c s
  rwa [EdgeSampling.EdgeAccepted, hlastEdge, harmed, hleValid, hsync]

theorem acc_withSample (c : Channel) (b : AccBank) (l : BitVec 4) (s : State) : (withSample c b l s).acc c = b := by
  cases c <;> rfl

/-- The accepted edge after a flush is the one pending count, whatever the flush merged. -/
theorem sampleChannel_of_flushed {s : State} {c : Channel} (v : Bool)
    (h : EdgeSampling.EdgeAccepted (refractOf s.cfg c) s.aon.time (s.acc c)) :
    sampleChannel c v (flushed c s) = withSample c { EdgeSampling.shiftedBank v (flushedBank c s) with
      lastEdge := s.aon.time, leValid := true, pending := 1 } (s.aon.wakePend ||| (edgeSource c).mask) (flushed c s) := by
  have hacc : EdgeSampling.EdgeAccepted (refractOf (flushed c s).cfg c) (flushed c s).aon.time ((flushed c s).acc c) := by
    rw [acc_flushed]
    cases c <;> exact edgeAccepted_flushedBank h
  have hpending := flushedBank_pending c s
  obtain ⟨hno, -⟩ | ⟨-, hstep⟩ := EdgeSampling.sampleChannel_cases c v (flushed c s)
  · exact absurd hacc hno
  · rw [hstep, acc_flushed, EdgeSampling.acceptEdge_of_pending_ne (by simp [EdgeSampling.shiftedBank, hpending])]
    simp only [EdgeSampling.shiftedBank, hpending]
    cases c <;> rfl

/-- R162, R351: what the cycle leaves for the next flush. -/
theorem edge_pending_after_flush {s : State} {c : Channel} (v : Bool) (hman : s.cycEn = false)
    (h : EdgeSampling.EdgeAccepted (refractOf s.cfg c) s.aon.time (s.acc c)) :
    let t := sampleChannel c v (flushed c s)
    t.main.res.r0 = (s.acc c).pending ∧ (t.acc c).pending = 1 ∧ (t.acc c).lastEdge = s.aon.time ∧
      (t.acc c).total.toNat = min ((s.acc c).total.toNat + (s.acc c).pending.toNat) (2 ^ 64 - 1) ∧
      ∃ u, exec (.flush c) t = .next u ∧ u.main.res.r0 = 1 := by
  obtain ⟨-, htotal, -⟩ := flushedBank_flushes c s
  simp only [sampleChannel_of_flushed v h, acc_withSample]
  refine ⟨by cases c <;> rfl, trivial, trivial, htotal, _, exec_flush_manual (by cases c <;> exact hman) c, ?_⟩
  rw [acc_withSample]
  rfl

/-- Settles O25: the two steps are `run_flushThenSample`, and what they leave is `edge_pending_after_flush`. -/
theorem edgeInFlushCycleStaysPending : Obligations.EdgeInFlushCycleStaysPending := by
  intro s c v rest hcfg hman harmed hwindow hs1 hs2 ha
  have hleft := edge_pending_after_flush (s := { s with agenda := rest }) (c := c) v hman
    (by cases c <;> exact ⟨⟨hs1, hs2⟩, harmed, hwindow⟩)
  exact ⟨_, run_flushThenSample hcfg hman ha, by cases c <;> exact hleft⟩

end Sys2Proof.Commands
end

section
/-! The register-bus accesses (20_memory.md R73 to R82; 10_state.md R64): what a legal read returns, what a legal write does by access
type, the command port, and the accesses that raise `BusError`. -/

open Sys2Proof Sys2Proof.Machine Sys2Proof.Claims

namespace Sys2Proof.RegisterBus

/-! ## The register that an access reaches (R73, R74) -/

theorem deepAsleep_eq_false {s : State} (h : ¬(s.aon.asleep = true ∧ s.aon.lastVariant = true)) : deepAsleep s = false := by
  simpa [deepAsleep] using h

theorem exec_busRd_of_mem {s : State} {addr : BitVec 12} {r : Reg} (hm : (addr.toNat, r) ∈ regMap)
    (h : ¬(s.aon.asleep = true ∧ s.aon.lastVariant = true)) : exec (.busRd addr 4) s = .next (readReg r s) := by
  show execBusRd addr 4 s = _
  rw [execBusRd, busTarget_of_mem hm (deepAsleep_eq_false h)]

theorem exec_busWr_of_mem {s : State} {addr : BitVec 12} {r : Reg} (hm : (addr.toNat, r) ∈ regMap)
    (h : ¬(s.aon.asleep = true ∧ s.aon.lastVariant = true)) (w : Word) :
    exec (.busWr addr 4 w) s = .next (writeReg r w s) := by
  show execBusWr addr 4 w s = _
  rw [execBusWr, busTarget_of_mem hm (deepAsleep_eq_false h)]

/-! ## Reads (R75, R79, R80) -/

theorem readReg_of_not_lo {r : Reg} (h : ∀ x, r ≠ .lo x) (s : State) :
    readReg r s = { s with busOut := .data (regValue s r) } := by
  cases r
  case lo x => exact absurd rfl (h x)
  all_goals rfl

theorem readReg_lo (x : Wide) (s : State) :
    readReg (.lo x) s = { s with
      busOut := .data ((wideValue s x).setWidth 32)
      main := { s.main with shadow := ((wideValue s x) >>> 32).setWidth 32 } } := by
  rw [← Commands.extractLsb'_high, ← Commands.extractLsb'_low]
  rfl

/-- Settles O32: a `*_LO` word also latches, every other word does not. -/
theorem legalReadReturnsRegister : Obligations.LegalReadReturnsRegister := by
  intro s addr r hm hawake
  rw [exec_busRd_of_mem hm hawake]
  exact ⟨fun hne => by rw [readReg_of_not_lo hne], fun x hx => by rw [hx, readReg_lo]⟩

/-- Settles O35: the `*_HI` read answers `SHADOW`, which the `*_LO` read left at the high half. -/
theorem pairedReadIsSnapshot : Obligations.PairedReadIsSnapshot := by
  intro s t u v lo hi x y hlo hhi hawake hawake' hfirst hshadow hsecond
  obtain rfl := Host.Outcome.next.inj ((exec_busRd_of_mem hlo hawake).symm.trans hfirst)
  obtain rfl := Host.Outcome.next.inj ((exec_busRd_of_mem hhi hawake').symm.trans hsecond)
  refine ⟨(wideValue s x).extractLsb' 0 32, u.main.shadow, rfl, rfl, ?_⟩
  rw [hshadow]
  exact dword_halves _

/-! ## Fields of a status word

A word built by `++` from its high field down is the union of its fields at their places: one rule for each piece, from the low end:
a field, a gap of reserved bits, and the last field below the reserved high bits. -/

theorem fieldAt_append {v w : Nat} (n : Nat) (hi : BitVec v) (lo : BitVec w) :
    fieldAt n (hi ++ lo) = fieldAt n lo ||| fieldAt (n + w) hi := by
  apply BitVec.eq_of_getLsbD_eq
  intro i hi
  simp only [fieldAt]
  grind

theorem fieldAt_word (w : Word) : w = fieldAt 0 w := by simp [fieldAt]

theorem fieldAt_zero (n w : Nat) : fieldAt n 0#w = 0#32 := by simp [fieldAt]

theorem fieldAt_field {v w n : Nat} {hi : BitVec v} {lo : BitVec w} {x : Word} (h : fieldAt (n + w) hi = x) :
    fieldAt n (hi ++ lo) = fieldAt n lo ||| x := h ▸ fieldAt_append n hi lo

theorem fieldAt_gap {v w n : Nat} {hi : BitVec v} {x : Word} (h : fieldAt (n + w) hi = x) :
    fieldAt n (hi ++ (0 : BitVec w)) = x := by simp [fieldAt_append, fieldAt_zero, h]

theorem fieldAt_last {v w n : Nat} {lo : BitVec w} : fieldAt n ((0 : BitVec v) ++ lo) = fieldAt n lo := by
  simp [fieldAt_append, fieldAt_zero]

theorem statusWord_fields (a : AccBank) :
    a.statusWord = bitAt 0 a.armed ||| bitAt 1 a.leValid ||| bitAt 2 a.pendOvf ||| bitAt 3 a.totalSat ||| bitAt 4 a.reportReq |||
      bitAt 5 a.auxSat := by
  simp only [BitVec.or_assoc]
  exact (fieldAt_word _).trans <| fieldAt_field <| fieldAt_field <| fieldAt_field <| fieldAt_field <| fieldAt_field fieldAt_last

theorem cmdStatusWord_fields (m : Main) :
    m.cmdStatusWord = bitAt 0 m.cmdErr ||| fieldAt 1 m.cmdErrCode ||| fieldAt 8 m.lastOpc ||| fieldAt 16 m.cmdCount := by
  simp only [BitVec.or_assoc]
  exact (fieldAt_word _).trans <| fieldAt_field <| fieldAt_field <| fieldAt_gap <| fieldAt_field rfl

theorem pscStateWord_fields (a : Aon) (m : Main) :
    pscStateWord a m = fieldAt 0 m.state ||| fieldAt 3 m.substep ||| bitAt 8 a.lastVariant ||| bitAt 9 a.joinPending |||
      bitAt 10 m.longSleep ||| bitAt 11 m.fullPath ||| bitAt 12 a.frstPend ||| bitAt 13 a.timerRun ||| bitAt 14 a.asleep |||
      bitAt 15 m.assocStored ||| fieldAt 16 m.tryCount ||| fieldAt 24 m.joinTry := by
  simp only [BitVec.or_assoc]
  exact (fieldAt_word _).trans <| fieldAt_field <| fieldAt_field <| fieldAt_field <| fieldAt_field <| fieldAt_field <|
    fieldAt_field <| fieldAt_field <| fieldAt_field <| fieldAt_field <| fieldAt_field <| fieldAt_field rfl

theorem pscCtrlWord_fields (a : Aon) : a.pscCtrlWord = bitAt 0 a.fsmEn := (fieldAt_word _).trans fieldAt_last

theorem sleepPlanWord_fields (m : Main) : m.sleepPlanWord = fieldAt 0 m.planArm ||| bitAt 4 m.planRetain :=
  (fieldAt_word _).trans <| fieldAt_field fieldAt_last

theorem inputsWord_fields (s : State) :
    inputsWord s = bitAt 0 s.aon.rain.sync.s2 ||| bitAt 1 s.aon.wind.sync.s2 ||| bitAt 2 s.aon.bsync.s2 |||
      bitAt 3 s.assocValid ||| bitAt 4 s.radioIdle := by
  simp only [BitVec.or_assoc]
  exact (fieldAt_word _).trans <| fieldAt_field <| fieldAt_field <| fieldAt_field <| fieldAt_field fieldAt_last

theorem comboWord_fields (k : Combo) :
    k.word = fieldAt 0 k.tSrc ||| fieldAt 2 k.hSrc ||| fieldAt 4 k.pSrc ||| fieldAt 8 k.rule ||| bitAt 15 k.valid := by
  simp only [BitVec.or_assoc]
  exact (fieldAt_word _).trans <| fieldAt_field <| fieldAt_field <| fieldAt_field <| fieldAt_gap <| fieldAt_field <|
    fieldAt_gap fieldAt_last

theorem battStatusWord_fields (a : Aon) (m : Main) :
    battStatusWord a m = fieldAt 0 a.battPct ||| bitAt 8 a.battValid ||| bitAt 9 a.lbtValid ||| bitAt 10 m.battNew := by
  simp only [BitVec.or_assoc]
  exact (fieldAt_word _).trans <| fieldAt_field <| fieldAt_gap <| fieldAt_field <| fieldAt_field fieldAt_last

theorem setWidth_eq_fieldAt {w : Nat} (v : BitVec w) : v.setWidth 32 = fieldAt 0 v := by simp [fieldAt]

/-! ## The words of the map (R64) -/

theorem mem_of_lookupReg {addr : Nat} {r : Reg} {m : List (Nat × Reg)} (h : lookupReg addr m = some r) : (addr, r) ∈ m := by
  induction m with
  | nil => cases h
  | cons e rest ih =>
    unfold lookupReg at h
    split_ifs at h with he
    · obtain rfl := Option.some.inj h
      exact List.mem_cons.2 (.inl (by rw [← he]))
    · exact List.mem_cons_of_mem _ (ih h)

/-- The map has at this address a word that is no `*_LO` word, with this value. -/
def HasWord (s : State) (p : BitVec 12 × Word) : Prop :=
  ∃ r, lookupReg p.1.toNat regMap = some r ∧ (∀ x, r ≠ .lo x) ∧ regValue s r = p.2

theorem exec_busRd_of_hasWord {s : State} {p : BitVec 12 × Word} (hp : HasWord s p)
    (h : ¬(s.aon.asleep = true ∧ s.aon.lastVariant = true)) :
    exec (.busRd p.1 4) s = .next { s with busOut := .data p.2 } := by
  obtain ⟨r, hr, hne, hv⟩ := hp
  rw [exec_busRd_of_mem (mem_of_lookupReg hr) h, readReg_of_not_lo hne, hv]

theorem bankWords_hasWord (c : Channel) (s : State) :
    ∀ p ∈ bankWords (BitVec.ofNat 12 (chBase c)) (s.acc c) (refractOf s.cfg c) (unitOf s.cfg c) (threshOf s.cfg c),
      HasWord s p := by
  simp only [bankWords, List.mem_cons, List.not_mem_nil, or_false, forall_eq_or_imp, forall_eq]
  cases c <;>
  exact ⟨⟨_, rfl, nofun, rfl⟩, ⟨_, rfl, nofun, statusWord_fields _⟩, ⟨_, rfl, nofun, rfl⟩, ⟨_, rfl, nofun, rfl⟩,
    ⟨_, rfl, nofun, rfl⟩, ⟨_, rfl, nofun, rfl⟩, ⟨_, rfl, nofun, rfl⟩, ⟨_, rfl, nofun, rfl⟩⟩

theorem globalWords_hasWord (s : State) : ∀ p ∈ globalWords s, HasWord s p := by
  simp only [globalWords, List.mem_cons, List.not_mem_nil, or_false, forall_eq_or_imp, forall_eq]
  exact ⟨⟨_, rfl, nofun, rfl⟩, ⟨_, rfl, nofun, rfl⟩, ⟨_, rfl, nofun, rfl⟩, ⟨_, rfl, nofun, cmdStatusWord_fields _⟩,
    ⟨_, rfl, nofun, rfl⟩, ⟨_, rfl, nofun, rfl⟩, ⟨_, rfl, nofun, rfl⟩, ⟨_, rfl, nofun, rfl⟩, ⟨_, rfl, nofun, rfl⟩,
    ⟨_, rfl, nofun, rfl⟩, ⟨_, rfl, nofun, pscStateWord_fields _ _⟩, ⟨_, rfl, nofun, pscCtrlWord_fields _⟩,
    ⟨_, rfl, nofun, setWidth_eq_fieldAt _⟩, ⟨_, rfl, nofun, setWidth_eq_fieldAt _⟩, ⟨_, rfl, nofun, setWidth_eq_fieldAt _⟩,
    ⟨_, rfl, nofun, sleepPlanWord_fields _⟩, ⟨_, rfl, nofun, rfl⟩, ⟨_, rfl, nofun, rfl⟩,
    ⟨_, rfl, nofun, inputsWord_fields _⟩, ⟨_, rfl, nofun, comboWord_fields _⟩, ⟨_, rfl, nofun, rfl⟩,
    ⟨_, rfl, nofun, battStatusWord_fields _ _⟩⟩

theorem configWords_hasWord (s : State) : ∀ p ∈ configWords s.cfg, HasWord s p := by
  have hpins : (BitVec.ofNat 8 s.cfg.gatePins.length).setWidth 32 = BitVec.ofNat 32 (s.cfg.gatePins.length % 256) := by
    apply BitVec.eq_of_toNat_eq
    rw [BitVec.toNat_setWidth, BitVec.toNat_ofNat, BitVec.toNat_ofNat]
  simp only [configWords, List.mem_cons, List.not_mem_nil, or_false, forall_eq_or_imp, forall_eq]
  exact ⟨⟨_, rfl, nofun, rfl⟩, ⟨_, rfl, nofun, rfl⟩, ⟨_, rfl, nofun, rfl⟩, ⟨_, rfl, nofun, rfl⟩, ⟨_, rfl, nofun, rfl⟩,
    ⟨_, rfl, nofun, rfl⟩, ⟨_, rfl, nofun, setWidth_eq_fieldAt _⟩, ⟨_, rfl, nofun, rfl⟩,
    ⟨_, rfl, nofun, setWidth_eq_fieldAt _⟩, ⟨_, rfl, nofun, rfl⟩, ⟨_, rfl, nofun, rfl⟩, ⟨_, rfl, nofun, rfl⟩,
    ⟨_, rfl, nofun, rfl⟩, ⟨_, rfl, nofun, hpins⟩, ⟨_, rfl, nofun, rfl⟩, ⟨_, rfl, nofun, rfl⟩⟩

/-- Settles O33: the map has each of the listed words, bank by bank and window by window. -/
theorem registerWordsRead : Obligations.RegisterWordsRead := by
  intro s hawake p hp
  apply exec_busRd_of_hasWord _ hawake
  simp only [List.mem_append] at hp
  obtain ((hrain | hwind) | hglobal) | hconfig := hp
  · exact bankWords_hasWord .rain s p hrain
  · exact bankWords_hasWord .wind s p hwind
  · exact globalWords_hasWord s p hglobal
  · exact configWords_hasWord s p hconfig

/-- The map has at this address the low half of a register with this value, and after it the high half. -/
def HasPair (s : State) (p : BitVec 12 × DWord) : Prop :=
  ∃ x, lookupReg p.1.toNat regMap = some (.lo x) ∧ lookupReg (p.1 + 4).toNat regMap = some (.hi x) ∧ wideValue s x = p.2

theorem exec_busRd_of_hasPair {s : State} {p : BitVec 12 × DWord} (hp : HasPair s p)
    (h : ¬(s.aon.asleep = true ∧ s.aon.lastVariant = true)) :
    exec (.busRd p.1 4) s = .next { s with
        busOut := .data (p.2.setWidth 32), main := { s.main with shadow := (p.2 >>> 32).setWidth 32 } } ∧
      exec (.busRd (p.1 + 4) 4) s = .next { s with busOut := .data s.main.shadow } := by
  obtain ⟨x, hlo, hhi, hv⟩ := hp
  rw [exec_busRd_of_mem (mem_of_lookupReg hlo) h, exec_busRd_of_mem (mem_of_lookupReg hhi) h, readReg_lo, hv]
  exact ⟨rfl, rfl⟩

/-- Settles O34: the map has each of the listed pairs. -/
theorem wideRegisterWordsRead : Obligations.WideRegisterWordsRead := by
  intro s hawake p hp
  apply exec_busRd_of_hasPair _ hawake
  revert p
  simp only [List.mem_cons, List.not_mem_nil, or_false, forall_eq_or_imp, forall_eq]
  refine ⟨?_, ?_, ?_, ?_, ?_, ?_, ?_, ?_, ?_, ?_, ?_, ?_, ?_, ?_, ?_, ?_, ?_, ?_⟩ <;> exact ⟨_, rfl, rfl, rfl⟩

/-! ## Writes (R23, R75, R81) -/

/-- What a write of the command port leaves (R103): the error of a refused word, or the command next on the agenda. -/
theorem exec_busWr_cmd {s : State} (h : ¬(s.aon.asleep = true ∧ s.aon.lastVariant = true)) (w : Word) :
    exec (.busWr 0x100 4 w) s = .next { issueCommand w s with busOut := .ok } :=
  exec_busWr_of_mem (r := .cmd) (mem_of_lookupReg rfl) h w

theorem reserved_eq_zero_iff (w : Word) : w.extractLsb' 9 23 = 0 ↔ w >>> 9 = 0 := by
  have hlt : w.toNat >>> 9 < 2 ^ 23 := by
    rw [Nat.shiftRight_eq_div_pow]
    omega
  simp only [← BitVec.toNat_inj, BitVec.extractLsb'_toNat, BitVec.toNat_ushiftRight, Nat.mod_eq_of_lt hlt]
  rfl

theorem issueCommand_eq (w : Word) (s : State) :
    issueCommand w s =
      if s.cycEn = true then takeCmdError .rejected s
      else if w >>> 9 ≠ 0 then takeCmdError .reservedBits s
      else if 0x06 < (w.setWidth 8).toNat then takeCmdError .illegalOpcode s
      else { s with agenda := .cmd w :: s.agenda } := by
  have hopc : w.setWidth 8 = w.extractLsb' 0 8 := BitVec.setWidth_eq_extractLsb' (by decide)
  simp only [hopc, ne_eq, ← reserved_eq_zero_iff]
  unfold issueCommand commandError
  split_ifs <;> rfl

/-- Settles O23: the tests and outcomes of `issueCommand_eq`. -/
theorem commandWordCheckedInOrder : Obligations.CommandWordCheckedInOrder := by
  intro s w hawake
  rw [exec_busWr_cmd hawake, issueCommand_eq]
  split_ifs <;> rfl

/-- The registers that a write can change. -/
def isWritable : Reg → Bool
  | .argLo | .argHi | .pscCtrl | .status _ | .cmdStatus | .cmd => true
  | _ => false

theorem writeEffect_of_read_only {r : Reg} (h : isWritable r = false) (w : Word) (s : State) : writeEffect r w s = s := by
  cases r <;> simp only [isWritable, Bool.true_eq_false] at h <;> rfl

set_option maxRecDepth 8000 in
theorem writable_addresses : ∀ p ∈ regMap, isWritable p.2 = true →
    BitVec.ofNat 12 p.1 ∈ ([0x014, 0x054, 0x100, 0x104, 0x108, 0x10C, 0x134] : List (BitVec 12)) := by decide

/-- Settles O37: the registers of the listed addresses by `writeEffect`, and at every other address a read-only one. -/
theorem writesFollowAccessType : Obligations.WritesFollowAccessType := by
  intro s w hawake
  refine ⟨exec_busWr_of_mem (r := .argLo) (mem_of_lookupReg rfl) hawake w,
    exec_busWr_of_mem (r := .argHi) (mem_of_lookupReg rfl) hawake w,
    exec_busWr_of_mem (r := .pscCtrl) (mem_of_lookupReg rfl) hawake w,
    exec_busWr_of_mem (r := .status .rain) (mem_of_lookupReg rfl) hawake w,
    exec_busWr_of_mem (r := .status .wind) (mem_of_lookupReg rfl) hawake w,
    exec_busWr_of_mem (r := .cmdStatus) (mem_of_lookupReg rfl) hawake w, fun addr ⟨r, hmapped⟩ hother => ?_⟩
  have hread : isWritable r = false := by
    refine Bool.eq_false_iff.2 fun hwritable => hother ?_
    simpa using writable_addresses _ hmapped hwritable
  rw [exec_busWr_of_mem hmapped hawake, writeReg, writeEffect_of_read_only hread]

/-! ## Illegal accesses (R65, R74, R76) -/

set_option maxRecDepth 8000 in
theorem mapped_addresses : ∀ p ∈ regMap, p.1 < 0x080 ∨ (0x100 ≤ p.1 ∧ p.1 < 0x1A8) ∨ (0x200 ≤ p.1 ∧ p.1 < 0x240) := by decide

theorem busTarget_eq_none {s : State} {addr : BitVec 12} {size : BitVec 3}
    (h : size ≠ 4 ∨ addr.toNat % 4 ≠ 0 ∨ (s.aon.asleep = true ∧ s.aon.lastVariant = true) ∨
      (0x080 ≤ addr.toNat ∧ addr.toNat ≤ 0x0FC) ∨ (0x1A8 ≤ addr.toNat ∧ addr.toNat ≤ 0x1FC) ∨ 0x240 ≤ addr.toNat) :
    busTarget addr size s = none := by
  refine Option.eq_none_iff_forall_not_mem.2 fun r hr => ?_
  obtain ⟨hsize, halign, hawake, hlookup⟩ := busTarget_eq_some hr
  have haligned : addr.toNat % 4 = 0 := by simpa using congrArg BitVec.toNat halign
  have hrange := mapped_addresses _ (mem_of_lookupReg hlookup)
  dsimp only at hrange
  obtain h | h | ⟨h1, h2⟩ | h := h
  · exact h hsize
  · exact h haligned
  · simp [deepAsleep, h1, h2] at hawake
  · omega

/-- Settles O36: an access without a target is `takeBusError`. -/
theorem illegalAccessRaisesBusError : Obligations.IllegalAccessRaisesBusError := by
  intro s addr size w h
  constructor
  · show execBusRd addr size s = _
    rw [execBusRd, busTarget_eq_none h]
    rfl
  · show execBusWr addr size w s = _
    rw [execBusWr, busTarget_eq_none h]
    rfl

end Sys2Proof.RegisterBus
end

section
/-! What an instruction leaves outside the block's registers: the configuration, the inputs to come, the agenda, the request trace
(30_encoding.md R110; 43_interfaces.md R272) and the durable store (20_memory.md R72, R86). -/

open Sys2Proof Sys2Proof.Machine Sys2Proof.Claims

namespace Sys2Proof.Invariants

/-! ## The requests that the block issues (R110, R272) -/

theorem requestLegal_storeGet (key : Byte) : requestLegal ⟨requestHeader .storeGet key 0, []⟩ = true := by
  simp [requestLegal, Encoding.decodeReq_requestHeader, Instr.wellFormed]

theorem requestLegal_storeSet (key : Byte) {bytes : List Byte} (h : bytes.length ≤ 255) :
    requestLegal ⟨requestHeader .storeSet key (BitVec.ofNat 8 bytes.length), bytes⟩ = true := by
  have hb : (BitVec.ofNat 8 bytes.length).toNat = bytes.length := by
    rw [BitVec.toNat_ofNat, Nat.mod_eq_of_lt (by omega)]
  simp [requestLegal, Encoding.decodeReq_requestHeader, Instr.wellFormed, hb]

theorem requestLegal_report {ch : Byte} (h : isReportChannel ch = true) (v : DWord) :
    requestLegal ⟨requestHeader .report ch 0, le64 v⟩ = true := by
  have hv : takeDWord (le64 v) = some (v, []) := PowerFsm.takeDWord_eq_some_iff.2 (List.append_nil _).symm
  simp [requestLegal, Encoding.decodeReq_requestHeader, Instr.wellFormed, hv, h]

theorem requestLegal_probe {dev : Byte} (h : isDevice dev = true) :
    requestLegal ⟨requestHeader .probe dev 0, []⟩ = true := by
  simp [requestLegal, Encoding.decodeReq_requestHeader, Instr.wellFormed, h]

theorem requestLegal_sensorRead {dev q : Byte} (h : isDevice dev = true) (hq : isQuantity q = true) :
    requestLegal ⟨requestHeader .sensorRead dev q, []⟩ = true := by
  simp [requestLegal, Encoding.decodeReq_requestHeader, Instr.wellFormed, h, hq]

theorem requestLegal_wakeCfg (arm : BitVec 4) {variant : Byte} (h : isBit variant = true) (dur : Word) :
    requestLegal ⟨requestHeader .wakeCfg (arm.setWidth 8) variant, wordBytes dur⟩ = true := by
  have harm : isArmSet (arm.setWidth 8) = true := by
    have := arm.isLt
    simp only [isArmSet, BitVec.toNat_setWidth, decide_eq_true_eq]
    omega
  have hdur : takeWord (wordBytes dur) = some (dur, []) := PowerFsm.takeWord_eq_some_iff.2 (List.append_nil _).symm
  simp [requestLegal, Encoding.decodeReq_requestHeader, Instr.wellFormed, harm, h, hdur]

theorem requestLegal_setLevel (pin : Byte) : requestLegal ⟨requestHeader .setLevel pin 0, []⟩ = true := by
  simp [requestLegal, Encoding.decodeReq_requestHeader, Instr.wellFormed, isBit]

/-! ## The frame of a micro-step -/

/-- R86: the keys the block writes. -/
def blockKeys : List Byte := [keyTotal .rain, keyTotal .wind, keyAssoc]

/-- What a micro-step leaves outside the registers: of the trace and the store, only legal requests and block keys are written. -/
structure PortFrame (s t : State) : Prop where
  cfg : t.cfg = s.cfg
  inq : t.inq = s.inq
  cycle : t.cycle = s.cycle
  agenda : t.agenda = s.agenda
  trace : ∃ rs, t.trace = s.trace ++ rs ∧ rs.all requestLegal = true
  store : t.ds = s.ds ∨ ∃ key ∈ blockKeys, ∃ bytes, bytes.length ≤ 255 ∧ t.ds = Store.set key.toNat bytes s.ds

namespace PortFrame

theorem refl (s : State) : PortFrame s s := ⟨rfl, rfl, rfl, rfl, ⟨[], (List.append_nil _).symm, rfl⟩, .inl rfl⟩

/-- The frame does not speak of registers. -/
theorem registers {s u : State} (h : PortFrame s u) (a : Aon) (m : Main) : PortFrame s { u with aon := a, main := m } :=
  ⟨h.cfg, h.inq, h.cycle, h.agenda, h.trace, h.store⟩

theorem asked {s : State} {hdr : Word} {p : List Byte} (h : requestLegal ⟨hdr, p⟩ = true) : PortFrame s (Claims.asked hdr p s) :=
  ⟨rfl, rfl, rfl, rfl, ⟨[⟨hdr, p⟩], rfl, by simp [h]⟩, .inl rfl⟩

theorem answered {s : State} {hdr : Word} {p : List Byte} (h : requestLegal ⟨hdr, p⟩ = true) (r : Response) :
    PortFrame s (Claims.answered hdr p r s) := ⟨rfl, rfl, rfl, rfl, ⟨[⟨hdr, p⟩], rfl, by simp [h]⟩, .inl rfl⟩

theorem afterStoreSet {s : State} {key : Byte} (hkey : key ∈ blockKeys) {bytes : List Byte} (h : bytes.length ≤ 255) :
    PortFrame s (PowerFsm.afterStoreSet key bytes s) := by
  refine ⟨rfl, rfl, rfl, rfl, ⟨[⟨_, bytes⟩], rfl, by simp [requestLegal_storeSet key h]⟩, ?_⟩
  by_cases hok : s.ans.status = 0
  · exact .inr ⟨key, hkey, bytes, h, storeEffect_ok (r := freeResponse s) hok ..⟩
  · exact .inl (storeEffect_err (r := freeResponse s) hok ..)

theorem gatesLow (pins : List Byte) (s : State) : PortFrame s (Machine.gatesLow pins s) := by
  rw [PowerFsm.gatesLow_eq]
  refine ⟨rfl, rfl, rfl, rfl, ⟨_, rfl, ?_⟩, .inl rfl⟩
  rw [List.all_map, List.all_eq_true]
  exact fun pin _ => requestLegal_setLevel pin

theorem reportTotal (c : Channel) (s : State) : PortFrame s (Machine.reportTotal c s) := by
  cases h : (s.acc c).reportReq
  · rw [PowerFsm.reportTotal_of_not_owed c h]
    exact refl s
  · have hlegal : requestLegal ⟨requestHeader .report (if channelBit c then 1 else 0) 0, le64 (s.acc c).total⟩ = true :=
      requestLegal_report (by cases c <;> rfl) _
    rw [PowerFsm.reportTotal_of_owed c h]
    cases c <;> exact (PortFrame.asked hlegal).registers _ _

/-- R85: a key that is not the block's reads as before. -/
theorem get_eq {s t : State} (h : PortFrame s t) {k : Nat} (hk : ∀ key ∈ blockKeys, k ≠ key.toNat) :
    Store.get k t.ds = Store.get k s.ds := by
  obtain heq | ⟨key, hkey, bytes, -, heq⟩ := h.store
  · rw [heq]
  · rw [heq, Store.get_set_other (hk key hkey)]

theorem store_wf {s t : State} (h : PortFrame s t) (hs : Store.wf s.ds = true) : Store.wf t.ds = true := by
  obtain heq | ⟨key, -, bytes, hlen, heq⟩ := h.store
  · rwa [heq]
  · rw [heq]
    exact Store.wf_set key hlen hs

theorem trace_legal {s t : State} (h : PortFrame s t) (hs : s.trace.all requestLegal = true) :
    t.trace.all requestLegal = true := by
  obtain ⟨rs, heq, hrs⟩ := h.trace
  rw [heq, List.all_append, hs, hrs]
  rfl

end PortFrame

end Sys2Proof.Invariants
end

section
/-! What every micro-step can do (42_power_fsm.md R200 to R246), said once: where it leads, what it leaves outside the registers, and
which of the registers that the invariants read it changes. -/

open Sys2Proof Sys2Proof.Machine Sys2Proof.Claims Sys2Proof.PowerFsm

namespace Sys2Proof.Invariants

/-! ## The flow of the controller (R200) -/

/-- The micro-step codes at which the FSM can be after a micro-step has completed; a micro-step that waits stays where it is. -/
def successors : Instr → List Byte
  | .boot0 => [0x08, 0x18]
  | .boot1 => [0x10]
  | .boot2 => [0x18]
  | .boot3 => [0x01, 0x02]
  | .join0 => [0x11, 0x09, 0x03]
  | .join1 => [0x01]
  | .join2 => [0x02]
  | .activeSession0 => [0x0A]
  | .activeSession1 => [0x2A, 0x12]
  | .activeSession2 => [0x2A, 0x1A, 0x12]
  | .activeSession3 => [0x22, 0x2A, 0x1A]
  | .activeSession4 => [0x2A, 0x22]
  | .activeSession5 => [0x32]
  | .activeSession6 => [0x3A]
  | .activeSession7 => [0x42]
  | .activeSession8 => [0x4A, 0x42]
  | .activeSession9 => [0x52, 0x4A]
  | .activeSession10 => [0x5A, 0x52]
  | .activeSession11 => [0x62]
  | .activeSession12 => [0x6A]
  | .activeSession13 => [0x72]
  | .activeSession14 => [0x7A]
  | .activeSession15 => [0x82]
  | .activeSession16 => [0x8A]
  | .activeSession17 => [0x92]
  | .activeSession18 => [0x9A]
  | .activeSession19 => [0x03]
  | .enterSleep0 => [0x0B]
  | .enterSleep1 => [0x06, 0x13]
  | .enterSleep2 => [0x1B]
  | .enterSleep3 => [0x23]
  | .enterSleep4 => [0x2B]
  | .enterSleep5 => [0x3B, 0x33]
  | .enterSleep6 => [0x23]
  | .enterSleep7 => [0x05, 0x04]
  | .sleeping0 => [0x05, 0x00]
  | .wake0 => [0x03, 0x0D, 0x01, 0x02, 0x15]
  | .wake1 => [0x06, 0x02]
  | .wake2 => [0x1D]
  | .wake3 => [0x03]
  | .factoryReset0 => [0x0E]
  | .factoryReset1 => [0x16]
  | .factoryReset2 => [0x1E]
  | .factoryReset3 => [0x00]
  | _ => []

/-- The micro-steps that may decide `COMBO` (R136). -/
def comboSteps : List Instr := [.activeSession2, .activeSession3, .activeSession4]

/-- The micro-steps that change `JOIN_TRY` (R204 to R206, R241, R341). -/
def joinTrySteps : List Instr := [.boot3, .join0, .sleeping0, .wake0, .factoryReset3]

/-- The micro-steps that load or clear a total (R201, R246). -/
def totalResetSteps : List Instr := [.boot0, .boot1, .factoryReset1, .factoryReset2]

/-! ## The registers that the invariants read -/

/-- R38, R43, R53, R55: the registers whose values `Legal` bounds hold values the spec writes. -/
structure SoundRegs (s : State) : Prop where
  combo : comboLegal s.aon.combo = true
  wakeCause : s.aon.wakeCause.toNat ≤ 4
  cmdStatus : cmdStatusLegal s.main = true
  battPct : s.aon.battPct.toNat ≤ 100

/-- The registers of `SoundRegs`, `JOIN_TRY` and `ASLEEP`. -/
structure Control where
  combo : Combo
  wakeCause : BitVec 3
  battPct : BitVec 7
  cmdErr : Bool
  cmdErrCode : BitVec 3
  asleep : Bool
  joinTry : Byte

def controlOf (s : State) : Control :=
  ⟨s.aon.combo, s.aon.wakeCause, s.aon.battPct, s.main.cmdErr, s.main.cmdErrCode, s.aon.asleep, s.main.joinTry⟩

theorem SoundRegs.of_controlOf_eq {s t : State} (h : controlOf t = controlOf s) (hs : SoundRegs s) : SoundRegs t := by
  simp only [controlOf, Control.mk.injEq] at h
  obtain ⟨hcombo, hcause, hpct, herr, hcode, -, -⟩ := h
  obtain ⟨hscombo, hscause, hsstatus, hspct⟩ := hs
  refine ⟨hcombo ▸ hscombo, hcause ▸ hscause, ?_, hpct ▸ hspct⟩
  rw [cmdStatusLegal, herr, hcode]
  exact hsstatus

/-- No channel's total is lower in `t` than in `s`. -/
def TotalsKept (s t : State) : Prop := ∀ c, (s.acc c).total.toNat ≤ (t.acc c).total.toNat

theorem TotalsKept.of_eq {s t : State} (hrain : t.aon.rain.total = s.aon.rain.total) (hwind : t.aon.wind.total = s.aon.wind.total) :
    TotalsKept s t
  | .rain => by rw [State.acc_rain, State.acc_rain, hrain]
  | .wind => by rw [State.acc_wind, State.acc_wind, hwind]

/-! ## A micro-step's outcome -/

/-- What the micro-step `i` leaves in `t` when it runs in `s`. -/
structure MicroStep (i : Instr) (s t : State) : Prop where
  port : PortFrame s t
  pc : t = s ∨ pcCode t ∈ successors i
  totals : i ∉ totalResetSteps → TotalsKept s t
  combo : t.aon.combo = s.aon.combo ∨ (i ∈ comboSteps ∧ pcCode t = 0x2A)
  joinTry : i ∉ joinTrySteps → t.main.joinTry = s.main.joinTry
  sound : cfgValid s.cfg = true → SoundRegs s → SoundRegs t
  awake : i ≠ .enterSleep7 → s.aon.asleep = false → t.aon.asleep = false

namespace MicroStep

theorem wait (i : Instr) (s : State) : MicroStep i s s :=
  ⟨.refl s, .inl rfl, fun _ => .of_eq rfl rfl, .inl rfl, fun _ => rfl, fun _ h => h, fun _ h => h⟩

/-- A micro-step that goes to `(st, k)` and changes no register of `Control`. -/
theorem plain {i : Instr} {s u : State} {st : BitVec 3} {k : BitVec 5} (hk : microStepCode st k ∈ successors i)
    (hport : PortFrame s u) (hcontrol : controlOf u = controlOf s) (htotals : i ∉ totalResetSteps → TotalsKept s u) :
    MicroStep i s (atStep st k u) where
  port := hport.registers _ _
  pc := .inr hk
  totals := htotals
  combo := .inl (congrArg Control.combo hcontrol)
  joinTry _ := congrArg Control.joinTry hcontrol
  sound _ := SoundRegs.of_controlOf_eq (t := atStep st k u) hcontrol
  awake _ h := (congrArg Control.asleep hcontrol).trans h

end MicroStep

/-- The micro-step `i` completes, or waits, and its outcome is a `MicroStep`. -/
def Completes (i : Instr) (s : State) : Prop := ∃ t, exec i s = .next t ∧ MicroStep i s t

theorem completes_of_eq {i : Instr} {s t : State} (h : exec i s = .next t) (hstep : MicroStep i s t) : Completes i s :=
  ⟨t, h, hstep⟩

theorem completes_of_wait {i : Instr} {s : State} (h : exec i s = .next s) : Completes i s := ⟨s, h, .wait i s⟩

/-! ## `BOOT` -/

theorem completes_boot0 (s : State) : Completes .boot0 s := by
  by_cases hcold : s.aon.wakeCause = 4
  · cases hr : s.ans.ready
    · exact completes_of_wait (RequestPort.exec_boot0_unanswered hr hcold)
    · exact ⟨_, exec_boot0_answered hr hcold,
        .plain (by decide) ((PortFrame.answered (requestLegal_storeGet 0x01) _).registers _ _) rfl (absurd (by decide))⟩
  · exact ⟨_, exec_boot0_of_retained hcold, .plain (by decide) (.refl s) rfl (absurd (by decide))⟩

theorem completes_boot1 (s : State) : Completes .boot1 s := by
  cases hr : s.ans.ready
  · exact completes_of_wait (RequestPort.exec_microStep_unanswered hr (by decide))
  · exact ⟨_, exec_boot1_answered hr,
      .plain (by decide) ((PortFrame.answered (requestLegal_storeGet 0x02) _).registers _ _) rfl (absurd (by decide))⟩

theorem completes_boot2 (s : State) : Completes .boot2 s := by
  cases hr : s.ans.ready
  · exact completes_of_wait (RequestPort.exec_microStep_unanswered hr (by decide))
  · exact ⟨_, exec_boot2_answered hr,
      .plain (by decide) ((PortFrame.answered (requestLegal_storeGet 0x10) _).registers _ _) rfl fun _ => .of_eq rfl rfl⟩

theorem completes_boot3 (s : State) : Completes .boot3 s := by
  by_cases hjoin : (s.aon.wakeCause = 4 ∧ s.main.assocStored = false) ∨ s.aon.joinPending = true
  · exact ⟨_, (exec_boot3 s).trans (if_pos hjoin), (PortFrame.refl s).registers _ _,
      .inr (show microStepCode 1 0 ∈ _ by decide), fun _ => .of_eq rfl rfl, .inl rfl, absurd (by decide),
      fun _ hs => ⟨hs.combo, hs.wakeCause, hs.cmdStatus, hs.battPct⟩, fun _ h => h⟩
  · exact ⟨_, (exec_boot3 s).trans (if_neg hjoin),
      .plain (by decide) ((PortFrame.refl s).registers _ _) rfl fun _ => .of_eq rfl rfl⟩

/-! ## `JOIN_NETWORK` -/

theorem completes_join0 (s : State) : Completes .join0 s := by
  cases hr : s.ans.ready
  · exact completes_of_wait (RequestPort.exec_microStep_unanswered hr (by decide))
  have hport : PortFrame s (answered 0x00000001 [] (freeResponse s) s) := .answered (by decide) _
  by_cases hok : s.ans.status = 0
  · exact ⟨_, exec_join0_of_ok hr hok, .plain (by decide) hport rfl fun _ => .of_eq rfl rfl⟩
  refine ⟨_, exec_join0_of_err hr hok, ?_⟩
  generalize hu : answered 0x00000001 [] (freeResponse s) s = u at hport
  have haon : u.aon = s.aon := hu ▸ rfl
  have hmain : u.main = s.main := hu ▸ rfl
  by_cases hleft : u.main.joinTry.toNat + 1 < u.cfg.joinAttempts.toNat
  · rw [joinFailed_of_lt hleft, haon, hmain]
    exact ⟨hport.registers _ _, .inr (show microStepCode 1 1 ∈ _ by decide), fun _ => .of_eq rfl rfl, .inl rfl,
      absurd (by decide), fun _ hs => ⟨hs.combo, hs.wakeCause, hs.cmdStatus, hs.battPct⟩, fun _ h => h⟩
  · rw [joinFailed_of_not_lt hleft, haon, hmain]
    exact ⟨hport.registers _ _, .inr (show microStepCode 3 0 ∈ _ by decide), fun _ => .of_eq rfl rfl, .inl rfl,
      absurd (by decide), fun _ hs => ⟨hs.combo, hs.wakeCause, hs.cmdStatus, hs.battPct⟩, fun _ h => h⟩

theorem completes_join1 (s : State) : Completes .join1 s := by
  by_cases hdone : s.main.waitUntil.toNat ≤ s.aon.time.toNat
  · exact ⟨_, (exec_join1 s).trans (if_pos hdone), .plain (by decide) (.refl s) rfl fun _ => .of_eq rfl rfl⟩
  · exact completes_of_wait ((exec_join1 s).trans (if_neg hdone))

theorem completes_join2 (s : State) : Completes .join2 s := by
  cases hr : s.ans.ready
  · exact completes_of_wait (RequestPort.exec_microStep_unanswered hr (by decide))
  · exact ⟨_, exec_join2_answered hr, .plain (by decide)
      ((PortFrame.afterStoreSet (by decide) (by decide)).registers _ _) rfl fun _ => .of_eq rfl rfl⟩

/-! ## The identification in `ACTIVE_SESSION` -/

/-- A continuation of a probe step: it clears `TRY` and leads on, and where it decides `COMBO`, with a row of the priority table, it
leads to `ACTIVE_SESSION.5`. -/
def Continues (i : Instr) (f : State → State) : Prop :=
  ∀ u, ∃ k combo, f (setTry 0 u) = atStep 2 k { u with
      aon := { u.aon with combo := combo }, main := { u.main with tryCount := 0 } } ∧
    microStepCode 2 k ∈ successors i ∧ (combo = u.aon.combo ∨ (comboLegal combo = true ∧ microStepCode 2 k = 0x2A))

theorem continues_goto {i : Instr} {k : BitVec 5} (hk : microStepCode 2 k ∈ successors i) :
    Continues i (goto .activeSession k) := fun u => ⟨k, u.aon.combo, rfl, hk, .inl rfl⟩

theorem continues_decide {i : Instr} (r : BitVec 3) (hk : microStepCode 2 5 ∈ successors i) :
    Continues i (fun s => goto .activeSession 5 (setCombo r s)) :=
  fun _ => ⟨5, comboOf r, rfl, hk, .inr ⟨by revert r; decide, by decide⟩⟩

theorem MicroStep.of_continues {i : Instr} (hi : i ∈ comboSteps) {f : State → State} (hf : Continues i f) {s u : State}
    (hport : PortFrame s u) (hcontrol : controlOf u = controlOf s) (htotals : TotalsKept s u) :
    MicroStep i s (f (setTry 0 u)) := by
  obtain ⟨k, combo, heq, hk, hcombo⟩ := hf u
  have hsame : u.aon.combo = s.aon.combo := congrArg Control.combo hcontrol
  rw [heq]
  refine ⟨hport.registers _ _, .inr hk, fun _ => htotals, ?_, fun _ => congrArg Control.joinTry hcontrol, fun _ hs => ?_,
    fun _ h => (congrArg Control.asleep hcontrol).trans h⟩
  · exact hcombo.imp (·.trans hsame) fun ⟨_, hpc⟩ => ⟨hi, hpc⟩
  · obtain ⟨hscombo, hcause, hstatus, hpct⟩ := SoundRegs.of_controlOf_eq hcontrol hs
    exact ⟨hcombo.elim (fun h => h ▸ hscombo) fun ⟨hlegal, _⟩ => hlegal, hcause, hstatus, hpct⟩

theorem probeStep_microStep {i : Instr} (hi : i ∈ comboSteps) {dev : Byte} (hdev : isDevice dev = true) {k : BitVec 5}
    (hk : microStepCode 2 k ∈ successors i) {found absent : State → State} (hfound : Continues i found)
    (habsent : Continues i absent) (s : State) : ∃ t, probeStep dev k found absent s = .next t ∧ MicroStep i s t := by
  cases hr : s.ans.ready
  · exact ⟨s, RequestPort.probeStep_unanswered hr .., .wait i s⟩
  obtain ⟨hno, -⟩ | ⟨a, u, hreq, hcases⟩ := probeStep_cases dev k found absent s
  · simp [hr] at hno
  obtain ⟨-, rfl⟩ : probeAnswer (freeResponse s) = a ∧ answered (requestHeader .probe dev 0) [] (freeResponse s) s = u := by
    simpa [Identification.reqProbe_answered hr] using hreq
  have hport : PortFrame s (answered (requestHeader .probe dev 0) [] (freeResponse s) s) :=
    .answered (requestLegal_probe hdev) _
  obtain ⟨-, hstep⟩ | ⟨-, hstep⟩ | ⟨-, -, hstep⟩ | ⟨-, -, hstep⟩ := hcases
  · exact ⟨_, hstep, .of_continues hi hfound hport rfl (.of_eq rfl rfl)⟩
  · exact ⟨_, hstep, .of_continues hi habsent hport rfl (.of_eq rfl rfl)⟩
  · exact ⟨_, hstep, .plain hk (hport.registers _ _) rfl fun _ => .of_eq rfl rfl⟩
  · exact ⟨_, hstep, .of_continues hi habsent hport rfl (.of_eq rfl rfl)⟩

theorem completes_activeSession0 (s : State) : Completes .activeSession0 s :=
  ⟨_, exec_activeSession0 s, .plain (by decide) ((PortFrame.refl s).registers _ _) rfl fun _ => .of_eq rfl rfl⟩

theorem completes_activeSession1 (s : State) : Completes .activeSession1 s := by
  cases hvalid : s.aon.combo.valid
  · exact ⟨_, (exec_activeSession1 s).trans (if_neg (by simp [hvalid])),
      .plain (by decide) ((PortFrame.refl s).registers _ _) rfl fun _ => .of_eq rfl rfl⟩
  · exact ⟨_, (exec_activeSession1 s).trans (if_pos hvalid), .plain (by decide) (.refl s) rfl fun _ => .of_eq rfl rfl⟩

theorem completes_activeSession2 (s : State) : Completes .activeSession2 s :=
  probeStep_microStep (dev := 1) (by decide) (by decide) (by decide) (continues_decide 1 (by decide))
    (continues_goto (by decide)) s

theorem completes_activeSession3 (s : State) : Completes .activeSession3 s :=
  probeStep_microStep (dev := 2) (by decide) (by decide) (by decide) (continues_goto (by decide))
    (continues_decide 4 (by decide)) s

theorem completes_activeSession4 (s : State) : Completes .activeSession4 s :=
  probeStep_microStep (dev := 3) (by decide) (by decide) (by decide) (continues_decide 2 (by decide))
    (continues_decide 3 (by decide)) s

/-! ## The measurements and reports in `ACTIVE_SESSION` -/

theorem totalsKept_setAcc {c : Channel} {s : State} {b : AccBank} (h : (s.acc c).total.toNat ≤ b.total.toNat) :
    TotalsKept s (s.setAcc c b) := by
  intro d
  by_cases hd : d = c
  · rw [hd, State.acc_setAcc]
    exact h
  · rw [State.acc_setAcc_of_ne hd]

theorem flush_total_le (u h : Word) (a : AccBank) : a.total.toNat ≤ (a.flush u h).total.toNat := by
  have := a.total.isLt
  obtain ⟨-, htotal, -⟩ := flush_fields u h a
  rw [htotal, max64]
  omega

theorem controlOf_setAcc (c : Channel) (b : AccBank) (s : State) : controlOf (s.setAcc c b) = controlOf s := by
  cases c <;> rfl

theorem portFrame_setAcc (c : Channel) (b : AccBank) (s : State) : PortFrame s (s.setAcc c b) := by
  cases c <;> exact (PortFrame.refl s).registers _ _

/-- A micro-step that only writes a channel's bank, and does not lower its total. -/
theorem MicroStep.bank {i : Instr} {s : State} {st : BitVec 3} {k : BitVec 5} (hk : microStepCode st k ∈ successors i)
    {c : Channel} {b : AccBank} (h : (s.acc c).total.toNat ≤ b.total.toNat) : MicroStep i s (atStep st k (s.setAcc c b)) :=
  .plain hk (portFrame_setAcc c b s) (controlOf_setAcc c b s) fun _ => totalsKept_setAcc h

theorem completes_activeSession5 (s : State) : Completes .activeSession5 s :=
  ⟨_, exec_activeSession5 s, .bank (by decide) (flush_total_le ..)⟩

theorem completes_activeSession6 (s : State) : Completes .activeSession6 s := by
  refine ⟨_, exec_activeSession6 s, ?_⟩
  rw [cmdSampleRate_state]
  exact .bank (by decide) (flush_total_le (unitOf s.cfg .wind) (threshOf s.cfg .wind) (s.acc .wind))

theorem completes_activeSession7 (s : State) : Completes .activeSession7 s := by
  by_cases hdue : BattDue s
  · cases hr : s.ans.ready
    · exact completes_of_wait (exec_activeSession7_unanswered hdue hr)
    refine ⟨_, exec_activeSession7_answered hdue hr, ?_⟩
    have hport : PortFrame s (answered 0x00000007 [] (freeResponse s) s) := .answered (by decide) _
    cases hok : statusOk (freeResponse s)
    · exact .plain (by decide) (hport.registers _ _) rfl fun _ => .of_eq rfl rfl
    · exact ⟨hport.registers _ _, .inr (show microStepCode 2 8 ∈ _ by decide), fun _ => .of_eq rfl rfl, .inl rfl,
        fun _ => rfl, fun hcfg hs => ⟨hs.combo, hs.wakeCause, hs.cmdStatus, pct_le_hundred (Cycle.cfgValid_bounds hcfg).2 _⟩,
        fun _ h => h⟩
  · exact ⟨_, exec_activeSession7_of_not_due hdue, .plain (by decide) (.refl s) rfl fun _ => .of_eq rfl rfl⟩

theorem controlOf_readDone (q : Quantity) (k : BitVec 5) (v : DWord) (s : State) : controlOf (readDone q k v s) = controlOf s := by
  cases q <;> rfl

theorem MicroStep.readDone {i : Instr} {s u : State} {k : BitVec 5} (hk : microStepCode 2 k ∈ successors i)
    (hport : PortFrame s u) (hcontrol : controlOf u = controlOf s) (htotals : TotalsKept s u) (q : Quantity) (v : DWord) :
    MicroStep i s (readDone q k v u) := by
  cases q <;> exact .plain hk (hport.registers _ _) hcontrol fun _ => htotals

theorem readStep_microStep {i : Instr} {q : Quantity} {k k' : BitVec 5} (hk : microStepCode 2 k ∈ successors i)
    (hk' : microStepCode 2 k' ∈ successors i) (s : State) : ∃ t, readStep q k k' s = .next t ∧ MicroStep i s t := by
  by_cases hsrc : sourceOf s.aon.combo q = 0
  · exact ⟨_, readStep_of_no_source hsrc k k', .readDone hk' (.refl s) rfl (.of_eq rfl rfl) q _⟩
  cases hr : s.ans.ready
  · exact ⟨s, readStep_unanswered hsrc hr k k', .wait i s⟩
  have hport : PortFrame s (readAnswered q s) := by
    refine .answered (requestLegal_sensorRead ?_ (by cases q <;> decide)) _
    revert hsrc
    generalize sourceOf s.aon.combo q = src
    revert src
    decide
  by_cases hok : s.ans.status = 0
  · exact ⟨_, readStep_of_ok hsrc hr hok k k', .readDone hk' hport rfl (.of_eq rfl rfl) q _⟩
  refine ⟨_, readStep_of_err hsrc hr hok k k', ?_⟩
  split_ifs
  · exact .plain hk (hport.registers _ _) rfl fun _ => .of_eq rfl rfl
  · exact .readDone hk' hport rfl (.of_eq rfl rfl) q _

theorem completes_activeSession8 (s : State) : Completes .activeSession8 s :=
  readStep_microStep (q := .temperature) (k := 8) (k' := 9) (by decide) (by decide) s

theorem completes_activeSession9 (s : State) : Completes .activeSession9 s :=
  readStep_microStep (q := .humidity) (k := 9) (k' := 10) (by decide) (by decide) s

theorem completes_activeSession10 (s : State) : Completes .activeSession10 s :=
  readStep_microStep (q := .pressure) (k := 10) (k' := 11) (by decide) (by decide) s

/-- A micro-step that reports a total, if that is owed. -/
theorem MicroStep.reportTotal {i : Instr} {st : BitVec 3} {k : BitVec 5} (hk : microStepCode st k ∈ successors i) (c : Channel)
    (s : State) : MicroStep i s (atStep st k (reportTotal c s)) := by
  have hport := PortFrame.reportTotal c s
  cases h : (s.acc c).reportReq
  · rw [reportTotal_of_not_owed c h]
    exact .plain hk (.refl s) rfl fun _ => .of_eq rfl rfl
  · rw [reportTotal_of_owed c h] at hport ⊢
    exact .plain hk hport (controlOf_setAcc c _ s) fun _ => totalsKept_setAcc (c := c) (b := { s.acc c with
      reportReq := false, sinceRpt := 0 }) le_rfl

/-- A micro-step that reports a value. -/
theorem MicroStep.report {i : Instr} {st : BitVec 3} {k : BitVec 5} (hk : microStepCode st k ∈ successors i) {ch : Byte}
    (hch : isReportChannel ch = true) (v : DWord) (s : State) : MicroStep i s (atStep st k (report ch v s)) :=
  .plain hk (.asked (requestLegal_report hch v)) rfl fun _ => .of_eq rfl rfl

theorem completes_activeSession11 (s : State) : Completes .activeSession11 s :=
  ⟨_, exec_activeSession11 s, .reportTotal (by decide) .rain s⟩

theorem completes_activeSession12 (s : State) : Completes .activeSession12 s :=
  ⟨_, exec_activeSession12 s, .reportTotal (by decide) .wind s⟩

theorem completes_activeSession13 (s : State) : Completes .activeSession13 s :=
  ⟨_, rfl, .report (by decide) (ch := 2) (by decide) _ s⟩

theorem completes_activeSession14 (s : State) : Completes .activeSession14 s :=
  ⟨_, rfl, .report (by decide) (ch := 3) (by decide) _ s⟩

theorem completes_activeSession15 (s : State) : Completes .activeSession15 s :=
  ⟨_, rfl, .report (by decide) (ch := 4) (by decide) _ s⟩

theorem completes_activeSession16 (s : State) : Completes .activeSession16 s :=
  ⟨_, rfl, .report (by decide) (ch := 5) (by decide) _ s⟩

theorem completes_activeSession17 (s : State) : Completes .activeSession17 s := by
  refine ⟨_, exec_activeSession17 s, ?_⟩
  split_ifs
  · exact .report (by decide) (ch := 6) (by decide) _ s
  · exact .plain (by decide) (.refl s) rfl fun _ => .of_eq rfl rfl

theorem completes_activeSession18 (s : State) : Completes .activeSession18 s := by
  refine ⟨_, exec_activeSession18 s, ?_⟩
  split_ifs
  · exact .report (by decide) (ch := 7) (by decide) _ s
  · exact .plain (by decide) (.refl s) rfl fun _ => .of_eq rfl rfl

theorem completes_activeSession19 (s : State) : Completes .activeSession19 s := by
  by_cases hend : s.radioIdle = true ∨ s.cfg.activeTimeout.toNat ≤ (s.aon.time - s.main.sessionStart).toNat
  · exact ⟨_, (exec_activeSession19 s).trans (if_pos hend), .plain (by decide) (.refl s) rfl fun _ => .of_eq rfl rfl⟩
  · exact completes_of_wait ((exec_activeSession19 s).trans (if_neg hend))

end Sys2Proof.Invariants
end

section
/-! The outcomes of the micro-steps of `ENTER_SLEEP`, `SLEEPING`, `WAKE` and `FACTORY_RESET` (42_power_fsm.md R230 to R246), and of
every micro-step. -/

open Sys2Proof Sys2Proof.Machine Sys2Proof.Claims Sys2Proof.PowerFsm

namespace Sys2Proof.Invariants

/-! ## `ENTER_SLEEP` -/

theorem completes_enterSleep0 (s : State) : Completes .enterSleep0 s := by
  refine ⟨_, exec_enterSleep0 s, .plain (by decide) (.gatesLow _ s) ?_ fun _ => ?_⟩
  · rw [gatesLow_eq]
    rfl
  · rw [gatesLow_eq]
    exact .of_eq rfl rfl

theorem completes_enterSleep1 (s : State) : Completes .enterSleep1 s := by
  refine ⟨_, exec_enterSleep1 s, ?_⟩
  split_ifs <;> exact .plain (by decide) (.refl s) rfl fun _ => .of_eq rfl rfl

theorem keyTotal_mem_blockKeys (c : Channel) : keyTotal c ∈ blockKeys := by cases c <;> decide

theorem persistStep_microStep {i : Instr} {k : BitVec 5} (hk : microStepCode 3 k ∈ successors i) (c : Channel) (s : State) :
    ∃ t, persistStep c k s = .next t ∧ MicroStep i s t := by
  cases hdue : persistDue c s
  · exact ⟨_, persistStep_of_not_due hdue k, .plain hk (.refl s) rfl fun _ => .of_eq rfl rfl⟩
  cases hr : s.ans.ready
  · exact ⟨s, persistStep_unanswered hdue hr k, .wait i s⟩
  have hport : PortFrame s (afterStoreSet (keyTotal c) (le64 (s.acc c).total) s) :=
    .afterStoreSet (keyTotal_mem_blockKeys c) (by simp)
  refine ⟨_, persistStep_answered hdue hr k, ?_⟩
  split_ifs
  · cases c <;> exact .plain hk (hport.registers _ _) rfl fun _ => .of_eq rfl rfl
  · exact .plain hk hport rfl fun _ => .of_eq rfl rfl

theorem completes_enterSleep2 (s : State) : Completes .enterSleep2 s := persistStep_microStep (k := 3) (by decide) .rain s

theorem completes_enterSleep3 (s : State) : Completes .enterSleep3 s := persistStep_microStep (k := 4) (by decide) .wind s

theorem completes_enterSleep4 (s : State) : Completes .enterSleep4 s :=
  ⟨_, exec_enterSleep4 s, .plain (by decide) ((PortFrame.refl s).registers _ _) rfl fun _ => .of_eq rfl rfl⟩

theorem requestLegal_arm (s : State) : requestLegal ⟨armHeader s, wordBytes s.main.sleepDur⟩ = true :=
  requestLegal_wakeCfg s.main.planArm (by split_ifs <;> decide) _

theorem completes_enterSleep5 (s : State) : Completes .enterSleep5 s := by
  cases hr : s.ans.ready
  · exact completes_of_wait (RequestPort.exec_microStep_unanswered hr (by decide))
  have hport : PortFrame s (armAnswered s) := .answered (requestLegal_arm s) _
  refine ⟨_, exec_enterSleep5_answered hr, ?_⟩
  split_ifs <;> exact .plain (by decide) (hport.registers _ _) rfl fun _ => .of_eq rfl rfl

theorem completes_enterSleep6 (s : State) : Completes .enterSleep6 s := by
  by_cases hdone : s.main.waitUntil.toNat ≤ s.aon.time.toNat
  · exact ⟨_, (exec_enterSleep6 s).trans (if_pos hdone), .plain (by decide) (.refl s) rfl fun _ => .of_eq rfl rfl⟩
  · exact completes_of_wait ((exec_enterSleep6 s).trans (if_neg hdone))

theorem completes_enterSleep7 (s : State) : Completes .enterSleep7 s := by
  refine ⟨_, exec_enterSleep7 s, ?_⟩
  split_ifs
  · exact .plain (by decide) ((PortFrame.refl s).registers _ _) rfl fun _ => .of_eq rfl rfl
  have hport (deep : Bool) : PortFrame s (asked (requestHeader .sleepReq (variantCode deep) 0) [] s) :=
    .asked (by cases deep <;> decide)
  exact ⟨(hport _).registers _ _, .inr (show microStepCode 4 0 ∈ _ by decide), fun _ => .of_eq rfl rfl, .inl rfl, fun _ => rfl,
    fun _ hs => ⟨hs.combo, hs.wakeCause, hs.cmdStatus, hs.battPct⟩, absurd rfl⟩

/-! ## `SLEEPING` and `WAKE` -/

/-- R107: the `WakeEvent` of a served source is one of its four codes. -/
theorem servedBit_code_le (m : BitVec 4) : (servedBit m).2.toNat ≤ 4 := by revert m; decide

theorem completes_sleeping0 (s : State) : Completes .sleeping0 s := by
  refine ⟨_, exec_sleeping0 s, ?_⟩
  split_ifs
  · exact ⟨(PortFrame.refl s).registers _ _, .inr (show microStepCode 0 0 ∈ _ by decide), fun _ => .of_eq rfl rfl, .inl rfl,
      absurd (by decide), fun _ hs => ⟨hs.combo, servedBit_code_le _, rfl, hs.battPct⟩, fun _ _ => rfl⟩
  · exact ⟨(PortFrame.refl s).registers _ _, .inr (show microStepCode 5 0 ∈ _ by decide), fun _ => .of_eq rfl rfl, .inl rfl,
      absurd (by decide), fun _ hs => ⟨hs.combo, hs.wakeCause, hs.cmdStatus, hs.battPct⟩, fun _ _ => rfl⟩
  · exact .wait _ s

/-- Every path of the dispatch saves the `WakeEvent`, and changes of `Control` besides only `JOIN_TRY`. -/
theorem MicroStep.dispatched {s : State} {st : BitVec 3} {k : BitVec 5} (hk : microStepCode st k ∈ successors .wake0)
    (m : BitVec 4) {main : Main} (hstatus : cmdStatusLegal main = cmdStatusLegal s.main) :
    MicroStep .wake0 s (atStep st k { served m s with main := main }) :=
  ⟨(PortFrame.refl s).registers _ _, .inr hk, fun _ => .of_eq rfl rfl, .inl rfl, absurd (by decide),
    fun _ hs => ⟨hs.combo, servedBit_code_le _, hstatus.trans hs.cmdStatus, hs.battPct⟩, fun _ h => h⟩

theorem completes_wake0 (s : State) : Completes .wake0 s := by
  by_cases hnone : armedPending s = 0
  · exact ⟨_, exec_wake0_of_none hnone, .plain (by decide) (.refl s) rfl fun _ => .of_eq rfl rfl⟩
  refine ⟨_, exec_wake0_of_pending hnone, ?_⟩
  unfold afterDispatch
  cases pri (armedPending s) with
  | button => exact .dispatched (by decide) (armedPending s) (main := s.main) rfl
  | timer =>
    dsimp only
    split_ifs
    · exact .dispatched (by decide) (armedPending s) rfl
    · exact .dispatched (by decide) (armedPending s) (main := s.main) rfl
  | rainEdge =>
    dsimp only
    split_ifs <;> exact .dispatched (by decide) (armedPending s) (main := s.main) rfl
  | windEdge =>
    dsimp only
    split_ifs <;> exact .dispatched (by decide) (armedPending s) (main := s.main) rfl

theorem completes_wake1 (s : State) : Completes .wake1 s := by
  by_cases hend : s.aon.bsync.s2 = false ∨ s.cfg.btnHold.toNat ≤ (s.aon.time - s.aon.btnPress).toNat
  · refine ⟨_, (exec_wake1 s).trans (if_pos hend), ?_⟩
    split_ifs <;> exact .plain (by decide) (.refl s) rfl fun _ => .of_eq rfl rfl
  · exact completes_of_wait ((exec_wake1 s).trans (if_neg hend))

theorem completes_wake2 (s : State) : Completes .wake2 s :=
  ⟨_, exec_wake2 s, .bank (by decide) (flush_total_le ..)⟩

theorem completes_wake3 (s : State) : Completes .wake3 s :=
  ⟨_, exec_wake3 s, .reportTotal (by decide) _ s⟩

/-! ## `FACTORY_RESET` -/

theorem completes_factoryReset0 (s : State) : Completes .factoryReset0 s := by
  cases hr : s.ans.ready
  · exact completes_of_wait (RequestPort.exec_microStep_unanswered hr (by decide))
  · exact ⟨_, exec_factoryReset0_answered hr,
      .plain (by decide) (.afterStoreSet (by decide) (by decide)) rfl fun _ => .of_eq rfl rfl⟩

theorem clearStep_microStep {i : Instr} (hi : i ∈ totalResetSteps) {k : BitVec 5} (hk : microStepCode 6 k ∈ successors i)
    (c : Channel) (s : State) : ∃ t, clearStep c k s = .next t ∧ MicroStep i s t := by
  cases hr : s.ans.ready
  · exact ⟨s, RequestPort.clearStep_unanswered hr c k, .wait i s⟩
  have hport : PortFrame s (afterStoreSet (keyTotal c) (le64 0) s) := .afterStoreSet (keyTotal_mem_blockKeys c) (by decide)
  refine ⟨_, clearStep_answered hr c k, ?_⟩
  cases c <;> exact .plain hk (hport.registers _ _) rfl (absurd hi)

theorem completes_factoryReset1 (s : State) : Completes .factoryReset1 s :=
  clearStep_microStep (k := 2) (by decide) (by decide) .rain s

theorem completes_factoryReset2 (s : State) : Completes .factoryReset2 s :=
  clearStep_microStep (k := 3) (by decide) (by decide) .wind s

theorem completes_factoryReset3 (s : State) : Completes .factoryReset3 s :=
  ⟨_, exec_factoryReset3 s, (PortFrame.refl s).registers _ _, .inr (show microStepCode 0 0 ∈ _ by decide),
    fun _ => .of_eq rfl rfl, .inl rfl, absurd (by decide), fun _ hs => ⟨hs.combo, hs.wakeCause, rfl, hs.battPct⟩, fun _ h => h⟩

/-! ## Every micro-step -/

theorem completes_microStep {i : Instr} (hf : formatOf i = .fsm) (s : State) : Completes i s := by
  cases i <;> simp only [formatOf, reduceCtorEq] at hf
  case boot0 => exact completes_boot0 s
  case boot1 => exact completes_boot1 s
  case boot2 => exact completes_boot2 s
  case boot3 => exact completes_boot3 s
  case join0 => exact completes_join0 s
  case join1 => exact completes_join1 s
  case join2 => exact completes_join2 s
  case activeSession0 => exact completes_activeSession0 s
  case activeSession1 => exact completes_activeSession1 s
  case activeSession2 => exact completes_activeSession2 s
  case activeSession3 => exact completes_activeSession3 s
  case activeSession4 => exact completes_activeSession4 s
  case activeSession5 => exact completes_activeSession5 s
  case activeSession6 => exact completes_activeSession6 s
  case activeSession7 => exact completes_activeSession7 s
  case activeSession8 => exact completes_activeSession8 s
  case activeSession9 => exact completes_activeSession9 s
  case activeSession10 => exact completes_activeSession10 s
  case activeSession11 => exact completes_activeSession11 s
  case activeSession12 => exact completes_activeSession12 s
  case activeSession13 => exact completes_activeSession13 s
  case activeSession14 => exact completes_activeSession14 s
  case activeSession15 => exact completes_activeSession15 s
  case activeSession16 => exact completes_activeSession16 s
  case activeSession17 => exact completes_activeSession17 s
  case activeSession18 => exact completes_activeSession18 s
  case activeSession19 => exact completes_activeSession19 s
  case enterSleep0 => exact completes_enterSleep0 s
  case enterSleep1 => exact completes_enterSleep1 s
  case enterSleep2 => exact completes_enterSleep2 s
  case enterSleep3 => exact completes_enterSleep3 s
  case enterSleep4 => exact completes_enterSleep4 s
  case enterSleep5 => exact completes_enterSleep5 s
  case enterSleep6 => exact completes_enterSleep6 s
  case enterSleep7 => exact completes_enterSleep7 s
  case sleeping0 => exact completes_sleeping0 s
  case wake0 => exact completes_wake0 s
  case wake1 => exact completes_wake1 s
  case wake2 => exact completes_wake2 s
  case wake3 => exact completes_wake3 s
  case factoryReset0 => exact completes_factoryReset0 s
  case factoryReset1 => exact completes_factoryReset1 s
  case factoryReset2 => exact completes_factoryReset2 s
  case factoryReset3 => exact completes_factoryReset3 s

theorem microStep_of_exec {i : Instr} (hf : formatOf i = .fsm) {s t : State} (h : exec i s = .next t) : MicroStep i s t := by
  obtain ⟨u, hu, hstep⟩ := completes_microStep hf s
  obtain rfl := Host.Outcome.next.inj (hu.symm.trans h)
  exact hstep

end Sys2Proof.Invariants
end

section
/-! What every instruction but a micro-step and `POR` can do, said once: a command, a bare request, a sampled input, the tick and a bus
access move nothing of the controller (41_accumulator.md R160; 43_interfaces.md R260; 60_exceptions.md R310 to R316; 20_memory.md R73
to R81). -/

open Sys2Proof Sys2Proof.Machine Sys2Proof.Claims

namespace Sys2Proof.Invariants

/-! ## What is kept -/

/-- The registers of the controller that only a micro-step or `POR` writes. -/
structure Held where
  state : BitVec 3
  substep : BitVec 5
  joinTry : Byte
  planArm : BitVec 4
  combo : Combo
  wakeCause : BitVec 3
  battPct : BitVec 7
  asleep : Bool
  lastVariant : Bool
  joinPending : Bool
  wakeArm : BitVec 4

def heldOf (s : State) : Held :=
  ⟨s.main.state, s.main.substep, s.main.joinTry, s.main.planArm, s.aon.combo, s.aon.wakeCause, s.aon.battPct, s.aon.asleep,
    s.aon.lastVariant, s.aon.joinPending, s.aon.wakeArm⟩

/-- The other registers that the invariants read: the timer, the wake latches, `FSM_EN` and the command error. -/
def liveOf (s : State) : Bool × BitVec 4 × Bool × Bool × BitVec 3 :=
  (s.aon.timerRun, s.aon.wakePend, s.aon.fsmEn, s.main.cmdErr, s.main.cmdErrCode)

/-- What is outside the registers and is not a port of the cycle. -/
def outsideOf (s : State) : Cfg × List CycleIn × Nat × List Slot × List Request × Store :=
  (s.cfg, s.inq, s.cycle, s.agenda, s.trace, s.ds)

/-- The controller has not moved from `s` to `t`. -/
structure Quiet (s t : State) : Prop where
  cfg : t.cfg = s.cfg
  held : heldOf t = heldOf s
  cmdStatus : cmdStatusLegal s.main = true → cmdStatusLegal t.main = true
  timer : timerHolds s → timerHolds t
  enabled : deepAsleep s = true → t.aon.fsmEn = s.aon.fsmEn
  storeWf : Store.wf s.ds = true → Store.wf t.ds = true

/-- What the instruction `i`, no micro-step and no `POR`, leaves in `t` when it runs in `s`. -/
structure Outer (i : Instr) (s t : State) : Prop extends Quiet s t where
  inq : t.inq = s.inq
  cycle : t.cycle = s.cycle
  agenda : t.agenda = s.agenda ∨ ∃ w j, decodeCmd w = .ok j ∧ t.agenda = .cmd w :: s.agenda
  trace : formatOf i ≠ .req → t.trace = s.trace
  store : (∀ a b bytes, i ≠ .reqStoreSet a b bytes) → t.ds = s.ds
  totals : (∀ c, i ≠ .resetTo c) → TotalsKept s t

namespace Outer

/-- An instruction that writes registers only. -/
theorem of_registers {i : Instr} {s t : State} (hout : outsideOf t = outsideOf s) (hheld : heldOf t = heldOf s)
    (hstatus : cmdStatusLegal s.main = true → cmdStatusLegal t.main = true) (htimer : timerHolds s → timerHolds t)
    (henabled : deepAsleep s = true → t.aon.fsmEn = s.aon.fsmEn) (htotals : (∀ c, i ≠ .resetTo c) → TotalsKept s t) :
    Outer i s t := by
  simp only [outsideOf, Prod.mk.injEq] at hout
  obtain ⟨hcfg, hinq, hcycle, hagenda, htrace, hds⟩ := hout
  exact ⟨⟨hcfg, hheld, hstatus, htimer, henabled, fun h => hds ▸ h⟩, hinq, hcycle, .inl hagenda, fun _ => htrace,
    fun _ => hds, htotals⟩

/-- An instruction that writes registers of no interest to the controller. -/
theorem plain {i : Instr} {s t : State} (hout : outsideOf t = outsideOf s) (hheld : heldOf t = heldOf s)
    (hlive : liveOf t = liveOf s) (htotals : (∀ c, i ≠ .resetTo c) → TotalsKept s t) : Outer i s t := by
  simp only [liveOf, Prod.mk.injEq] at hlive
  obtain ⟨hrun, hpend, hen, herr, hcode⟩ := hlive
  refine of_registers hout hheld (fun h => ?_) (fun h => ?_) (fun _ => hen) htotals
  · rwa [cmdStatusLegal, herr, hcode]
  · rwa [timerHolds, hrun, hpend]

theorem refl (i : Instr) (s : State) : Outer i s s := plain rfl rfl rfl fun _ => .of_eq rfl rfl

end Outer

/-! ## Commands (R160) -/

theorem outer_refused (i : Instr) (s : State) : Outer i s { s with main := { s.main with cmdErr := true, cmdErrCode := 3 } } :=
  .of_registers rfl rfl (fun _ => rfl) id (fun _ => rfl) fun _ => .of_eq rfl rfl

theorem outer_recorded (i : Instr) (s : State) (opc : Byte) (res : Results) : Outer i s (commandDone opc res s) :=
  .plain rfl rfl rfl fun _ => .of_eq rfl rfl

theorem outer_bank (i : Instr) {s : State} {c : Channel} {b : AccBank} (opc : Byte) (res : Results)
    (h : (∀ d, i ≠ .resetTo d) → (s.acc c).total.toNat ≤ b.total.toNat) :
    Outer i s (commandDone opc res (s.setAcc c b)) := by
  have htotals : (∀ d, i ≠ .resetTo d) → TotalsKept s (commandDone opc res (s.setAcc c b)) := fun hi d => by
    rw [Commands.acc_commandDone]
    exact totalsKept_setAcc (h hi) d
  cases c <;> exact .plain rfl rfl rfl htotals

theorem outer_command {i : Instr} (hf : formatOf i = .cmd) (s : State) : ∃ t, exec i s = .next t ∧ Outer i s t := by
  cases hman : s.cycEn
  case true => exact ⟨_, Commands.commandsRejectedInAutonomousMode i s hf hman, outer_refused i s⟩
  cases i <;> simp only [formatOf, reduceCtorEq] at hf
  case nop c => exact ⟨_, Commands.issued_manual hman .., outer_recorded ..⟩
  case arm c => exact ⟨_, Commands.issued_manual hman .., outer_bank _ _ _ fun _ => le_rfl⟩
  case flush c => exact ⟨_, Commands.issued_manual hman .., outer_bank _ _ _ fun _ => flush_total_le ..⟩
  case readTotal c => exact ⟨_, Commands.issued_manual hman .., outer_recorded ..⟩
  case resetTo c => exact ⟨_, Commands.issued_manual hman .., outer_bank _ _ _ fun h => absurd rfl (h c)⟩
  case sampleRate c =>
    refine ⟨_, Commands.issued_manual hman .., ?_⟩
    rw [PowerFsm.cmdSampleRate_state]
    exact outer_bank _ _ _ fun _ => flush_total_le (unitOf s.cfg c) (threshOf s.cfg c) (s.acc c)
  case ackReport c => exact ⟨_, Commands.issued_manual hman .., outer_bank _ _ _ fun _ => le_rfl⟩

/-! ## Requests standing alone (R260) -/

/-- A bare request writes the port, the trace and, a `STORE_SET`, the store. -/
theorem outer_ports {i : Instr} (hf : formatOf i = .req) {s : State} (tr : List Request) (r : Option Response) {ds : Store}
    (hwf : Store.wf s.ds = true → Store.wf ds = true) (hds : (∀ a b bytes, i ≠ .reqStoreSet a b bytes) → ds = s.ds) :
    Outer i s { s with trace := tr, rsp := r, ds := ds } :=
  ⟨⟨rfl, rfl, id, id, fun _ => rfl, hwf⟩, rfl, rfl, .inl rfl, fun h => absurd hf h, hds, fun _ => .of_eq rfl rfl⟩

theorem outer_transaction {i : Instr} (hf : formatOf i = .req) (s : State) {k : ReqKind} (a b : Byte) {p : List Byte}
    (hp : p.length ≤ 255) (hk : k = .storeSet → ∃ bytes, i = .reqStoreSet a b bytes) :
    ∃ t, transaction k a b p s = .next t ∧ Outer i s t := by
  cases hr : s.ans.ready
  · exact ⟨s, RequestPort.transaction_unanswered hr .., .refl i s⟩
  · refine ⟨_, by rw [transaction, transact_answered hr], outer_ports hf _ _ (storeEffect_wf · k a hp _) fun hi => ?_⟩
    refine storeEffect_of_ne (fun hset => ?_) ..
    obtain ⟨bytes, rfl⟩ := hk hset
    exact hi a b bytes rfl

theorem outer_request {i : Instr} (hf : formatOf i = .req) (s : State) : ∃ t, exec i s = .next t ∧ Outer i s t := by
  have hreq := hf
  cases i <;> simp only [formatOf, reduceCtorEq] at hf
  case reqReport a b v => exact ⟨_, rfl, outer_ports hreq _ s.rsp id fun _ => rfl⟩
  case reqSetLevel a b => exact ⟨_, rfl, outer_ports hreq _ s.rsp id fun _ => rfl⟩
  case reqSleepReq a b => exact ⟨_, rfl, outer_ports hreq _ s.rsp id fun _ => rfl⟩
  case reqStoreSet a b bytes =>
    refine outer_transaction hreq s a b ?_ fun _ => ⟨bytes, rfl⟩
    have := b.isLt
    rw [List.length_take]
    omega
  all_goals exact outer_transaction hreq s _ _ (Nat.le_of_ble_eq_true rfl) nofun

/-! ## Events (R116) -/

/-- R310: neither edge latch is the timer's. -/
theorem getLsbD_zero_or_edgeSource (c : Channel) (l : BitVec 4) : (l ||| (edgeSource c).mask).getLsbD 0 = l.getLsbD 0 := by
  revert l; cases c <;> decide

theorem outer_sampleChannel {i : Instr} (c : Channel) (v : Bool) (s : State) : Outer i s (sampleChannel c v s) := by
  obtain ⟨-, hstep⟩ | ⟨-, hstep⟩ := EdgeSampling.sampleChannel_cases c v s
  · rw [hstep]
    cases c <;> exact .plain rfl rfl rfl fun _ => .of_eq rfl rfl
  · rw [hstep]
    obtain ⟨htotal, -⟩ := acceptEdge_kept s.aon.time (EdgeSampling.shiftedBank v (s.acc c))
    have htimer : timerHolds s → s.aon.timerRun = true ∨ (s.aon.wakePend ||| (edgeSource c).mask).getLsbD 0 = true := by
      rw [getLsbD_zero_or_edgeSource]
      exact id
    cases c with
    | rain => exact .of_registers rfl rfl id htimer (fun _ => rfl) fun _ => .of_eq htotal rfl
    | wind => exact .of_registers rfl rfl id htimer (fun _ => rfl) fun _ => .of_eq rfl htotal

theorem outer_tick {i : Instr} (s : State) : Outer i s (fireTimer (advanceTime s)) := by
  by_cases hdue : OneShotTimer.TimerDue (advanceTime s)
  · rw [OneShotTimer.fireTimer_of_due hdue]
    have hlatch : ((advanceTime s).aon.wakePend ||| 0b0001).getLsbD 0 = true := by simp
    exact .of_registers rfl rfl id (fun _ => .inr hlatch) (fun _ => rfl) fun _ => .of_eq rfl rfl
  · rw [OneShotTimer.fireTimer_of_not_due hdue]
    exact .plain rfl rfl rfl fun _ => .of_eq rfl rfl

theorem outer_event {i : Instr} (hf : formatOf i = .evt) (hpor : ∀ l, i ≠ .evtPor l) (s : State) :
    ∃ t, exec i s = .next t ∧ Outer i s t := by
  cases i <;> simp only [formatOf, reduceCtorEq] at hf
  case evtTick l => exact ⟨_, OneShotTimer.exec_evtTick l s, outer_tick s⟩
  case evtInRain v => exact ⟨_, EdgeSampling.exec_evtInRain v s, outer_sampleChannel ..⟩
  case evtInWind v => exact ⟨_, EdgeSampling.exec_evtInWind v s, outer_sampleChannel ..⟩
  case evtInBtn v =>
    refine ⟨_, Cycle.exec_evtInBtn v s, ?_⟩
    have hlatch : (s.aon.wakePend ||| 0b1000).getLsbD 0 = s.aon.wakePend.getLsbD 0 := by simp
    split_ifs
    · exact .of_registers rfl rfl id (Or.imp_right hlatch.trans) (fun _ => rfl) fun _ => .of_eq rfl rfl
    · exact .plain rfl rfl rfl fun _ => .of_eq rfl rfl
  case evtInAssoc v => exact ⟨_, rfl, .plain rfl rfl rfl fun _ => .of_eq rfl rfl⟩
  case evtInIdle v => exact ⟨_, rfl, .plain rfl rfl rfl fun _ => .of_eq rfl rfl⟩
  case evtInFactory v =>
    refine ⟨_, Cycle.exec_evtInFactory v s, ?_⟩
    split_ifs <;> exact .plain rfl rfl rfl fun _ => .of_eq rfl rfl
  case evtPor l => exact absurd rfl (hpor l)

/-! ## Bus accesses (R73 to R81) -/

theorem outer_readReg {i : Instr} (r : Reg) (s : State) : Outer i s (readReg r s) := by
  cases r
  case lo x =>
    rw [RegisterBus.readReg_lo]
    exact .plain rfl rfl rfl fun _ => .of_eq rfl rfl
  all_goals exact .plain rfl rfl rfl fun _ => .of_eq rfl rfl

theorem commandError_false_of_none {en : Bool} {w : Word} (h : commandError en w = none) : commandError false w = none := by
  cases en
  · exact h
  · cases h

theorem outer_issueCommand {i : Instr} (w : Word) (s : State) : Outer i s { issueCommand w s with busOut := .ok } := by
  unfold issueCommand
  split
  next e _ => exact .of_registers rfl rfl (fun _ => by cases e <;> rfl) id (fun _ => rfl) fun _ => .of_eq rfl rfl
  next hnone =>
    obtain ⟨j, hj⟩ := commandError_none (commandError_false_of_none hnone)
    exact ⟨⟨rfl, rfl, id, id, fun _ => rfl, id⟩, rfl, rfl, .inr ⟨w, j, hj, rfl⟩, fun _ => rfl, fun _ => rfl,
      fun _ => .of_eq rfl rfl⟩

theorem cmdStatusLegal_clear (w : Word) {m : Main} (h : cmdStatusLegal m = true) : cmdStatusLegal (m.clearCmdStatus w) = true := by
  unfold Main.clearCmdStatus
  split_ifs
  · rfl
  · exact h

theorem outer_writeReg {i : Instr} (r : Reg) (w : Word) {s : State} (hawake : deepAsleep s = false) :
    Outer i s (writeReg r w s) := by
  cases hw : RegisterBus.isWritable r
  · rw [writeReg, RegisterBus.writeEffect_of_read_only hw]
    exact .plain rfl rfl rfl fun _ => .of_eq rfl rfl
  cases r <;> simp only [RegisterBus.isWritable, Bool.false_eq_true] at hw
  case argLo => exact .plain rfl rfl rfl fun _ => .of_eq rfl rfl
  case argHi => exact .plain rfl rfl rfl fun _ => .of_eq rfl rfl
  case status c => cases c <;> exact .plain rfl rfl rfl fun _ => .of_eq rfl rfl
  case pscCtrl =>
    exact .of_registers rfl rfl id id (fun h => absurd h (by simp [hawake])) fun _ => .of_eq rfl rfl
  case cmdStatus =>
    have hheld : heldOf (writeReg .cmdStatus w s) = heldOf s := by
      simp only [heldOf, writeReg, writeEffect, Main.clearCmdStatus]
      split_ifs <;> rfl
    exact .of_registers rfl hheld (cmdStatusLegal_clear w) id (fun _ => rfl) fun _ => .of_eq rfl rfl
  case cmd => exact outer_issueCommand w s

theorem outer_busRd (addr : BitVec 12) (size : BitVec 3) (s : State) :
    ∃ t, exec (.busRd addr size) s = .next t ∧ Outer (.busRd addr size) s t := by
  show ∃ t, execBusRd addr size s = .next t ∧ _
  unfold execBusRd
  split
  · exact ⟨_, rfl, outer_readReg _ s⟩
  · exact ⟨_, rfl, .plain rfl rfl rfl fun _ => .of_eq rfl rfl⟩

theorem outer_busWr (addr : BitVec 12) (size : BitVec 3) (w : Word) (s : State) :
    ∃ t, exec (.busWr addr size w) s = .next t ∧ Outer (.busWr addr size w) s t := by
  show ∃ t, execBusWr addr size w s = .next t ∧ _
  unfold execBusWr
  split
  next r hr =>
    obtain ⟨-, -, hawake, -⟩ := busTarget_eq_some hr
    exact ⟨_, rfl, outer_writeReg r w hawake⟩
  next => exact ⟨_, rfl, .plain rfl rfl rfl fun _ => .of_eq rfl rfl⟩

/-! ## Every instruction -/

theorem outer_instr {i : Instr} (hfsm : formatOf i ≠ .fsm) (hpor : ∀ l, i ≠ .evtPor l) (s : State) :
    ∃ t, exec i s = .next t ∧ Outer i s t := by
  cases hf : formatOf i with
  | cmd => exact outer_command hf s
  | req => exact outer_request hf s
  | evt => exact outer_event hf hpor s
  | busRd =>
    cases i <;> simp only [formatOf, reduceCtorEq] at hf
    exact outer_busRd _ _ s
  | busWr =>
    cases i <;> simp only [formatOf, reduceCtorEq] at hf
    exact outer_busWr _ _ _ s
  | fsm => exact absurd hf hfsm

theorem outer_of_exec {i : Instr} (hfsm : formatOf i ≠ .fsm) (hpor : ∀ l, i ≠ .evtPor l) {s t : State}
    (h : exec i s = .next t) : Outer i s t := by
  obtain ⟨u, hu, hout⟩ := outer_instr hfsm hpor s
  obtain rfl := Host.Outcome.next.inj (hu.symm.trans h)
  exact hout

/-- R304: every instruction completes in every state. -/
theorem exec_next (i : Instr) (s : State) : ∃ t, exec i s = .next t := by
  by_cases hfsm : formatOf i = .fsm
  · obtain ⟨t, ht, -⟩ := completes_microStep hfsm s
    exact ⟨t, ht⟩
  by_cases hpor : ∃ l, i = .evtPor l
  · obtain ⟨l, rfl⟩ := hpor
    exact ⟨_, rfl⟩
  · obtain ⟨t, ht, -⟩ := outer_instr hfsm (not_exists.1 hpor) s
    exact ⟨t, ht⟩

/-! ## What no instruction does (R8, R86, R176) -/

/-- Settles O13: a micro-step lowers a total only where it loads or clears it, and outside the micro-steps only `RESET_TO` and `POR`
do. -/
theorem totalsFallOnlyByReset : Obligations.TotalsFallOnlyByReset := by
  intro i s t c hexec hless
  have hfalls : ¬TotalsKept s t := fun h => absurd (h c) (Nat.not_le.2 hless)
  by_cases hfsm : formatOf i = .fsm
  · have hi : i ∈ totalResetSteps := by_contra fun h => hfalls ((microStep_of_exec hfsm hexec).totals h)
    simp only [totalResetSteps, List.mem_cons, List.not_mem_nil, or_false] at hi
    exact .inr (by tauto)
  by_cases hpor : ∃ l, i = .evtPor l
  · tauto
  · refine .inl (by_contra fun h => hfalls ((outer_of_exec hfsm (not_exists.1 hpor) hexec).totals ?_))
    exact not_exists.1 h

/-- Settles O14: of the store a micro-step writes block keys only, and every other instruction but `STORE_SET` nothing. -/
theorem configurationAndOtherKeysUntouched : Obligations.ConfigurationAndOtherKeysUntouched := by
  intro i s t hexec
  by_cases hfsm : formatOf i = .fsm
  · obtain ⟨hport, -⟩ := microStep_of_exec hfsm hexec
    refine ⟨hport.cfg, hport.inq, hport.cycle, fun _ k hrain hwind hassoc => hport.get_eq ?_⟩
    simp only [blockKeys, List.mem_cons, List.not_mem_nil, or_false, forall_eq_or_imp, forall_eq]
    exact ⟨hrain, hwind, hassoc⟩
  by_cases hpor : ∃ l, i = .evtPor l
  · obtain ⟨l, rfl⟩ := hpor
    obtain rfl := Host.Outcome.next.inj hexec
    exact ⟨rfl, rfl, rfl, fun _ _ _ _ _ => rfl⟩
  · have hout := outer_of_exec hfsm (not_exists.1 hpor) hexec
    exact ⟨hout.cfg, hout.inq, hout.cycle, fun hset k _ _ _ => by rw [hout.store hset]⟩

end Sys2Proof.Invariants
end

section
/-! What a step can do, said once (20_memory.md R89): it moves nothing of the controller, or it is `POR`, or it runs the micro-step at
the program counter. From it follow the invariants about the agenda and the request trace (43_interfaces.md R272). -/

open Sys2Proof Sys2Proof.Machine Sys2Proof.Claims

namespace Sys2Proof.Invariants

/-! ## Which instructions a port carries -/

theorem formatOf_of_decodeCmd {w : Word} {i : Instr} (h : decodeCmd w = .ok i) : formatOf i = .cmd := by
  unfold decodeCmd at h
  dsimp only at h
  split_ifs at h
  split at h <;> cases h <;> rfl

theorem formatOf_of_decodeEvt {w : Word} {i : Instr} (h : decodeEvt w = .ok i) : formatOf i = .evt := by
  unfold decodeEvt at h
  dsimp only at h
  split_ifs at h
  split at h <;> cases h <;> rfl

theorem formatOf_of_decodeFsm {code : Byte} {i : Instr} (h : decodeFsm code = .ok i) : formatOf i = .fsm := by
  unfold decodeFsm at h
  split at h <;> cases h <;> rfl

theorem formatOf_of_decodeReq {hdr : Word} {p rest : List Byte} {i : Instr} (h : decodeReq hdr p = .ok (i, rest)) :
    formatOf i = .req := by
  unfold decodeReq at h
  dsimp only at h
  repeat' split at h
  all_goals cases h
  all_goals rfl

theorem formatOf_decodeBeat (b : BusBeat) : formatOf (decodeBeat b) = .busRd ∨ formatOf (decodeBeat b) = .busWr := by
  unfold decodeBeat
  split_ifs
  · exact .inr rfl
  · exact .inl rfl

theorem decodeReq_of_fetch {hdr : Word} {p : List Byte} {s : State} {i : Instr} (h : fetch (.req hdr p) s = .ok i) :
    decodeReq hdr p = .ok (i, []) := by
  simp only [fetch] at h
  split at h <;> cases h
  assumption

/-! ## The agenda -/

/-- A slot that holds an instruction and is no request. -/
def Fresh (x : Slot) : Prop := slotRunnable x = true ∧ ∀ hdr p, x ≠ .req hdr p

theorem fresh_evt {w : Word} {i : Instr} (h : decodeEvt w = .ok i) : Fresh (.evt w) := ⟨by simp [slotRunnable, h], nofun⟩

theorem fresh_cmd {w : Word} {i : Instr} (h : decodeCmd w = .ok i) : Fresh (.cmd w) := ⟨by simp [slotRunnable, h], nofun⟩

theorem fresh_stimulus {code : Byte} (h : code ∈ ([1, 2, 3, 4, 5, 6, 7, 8] : List Byte)) (l : Bool) :
    Fresh (.evt (stimulusWord code l)) := by
  simp only [List.mem_cons, List.not_mem_nil, or_false] at h
  obtain rfl | rfl | rfl | rfl | rfl | rfl | rfl | rfl := h <;> cases l <;> exact fresh_evt rfl

/-- R89: a cycle lays out instructions, and no requests. -/
theorem cycleAgenda_fresh (en : Bool) (c : CycleIn) : ∀ x ∈ cycleAgenda en c, Fresh x := by
  have hlevels : ∀ x ∈ [Slot.evt (stimulusWord 0x05 c.assoc), Slot.evt (stimulusWord 0x06 c.idle)], Fresh x := by
    simp [fresh_stimulus]
  have hbus : ∀ x ∈ (match c.bus with | some b => [Slot.bus b] | none => []), Fresh x := by
    cases c.bus <;> simp [Fresh, slotRunnable]
  have hfsm : ∀ x ∈ (if en then [Slot.fsm] else []), Fresh x := by cases en <;> simp [Fresh, slotRunnable]
  have hinputs : ∀ x ∈ [Slot.evt (stimulusWord 0x02 c.rain), Slot.evt (stimulusWord 0x03 c.wind),
      Slot.evt (stimulusWord 0x04 c.btn), Slot.evt (stimulusWord 0x07 c.factory)], Fresh x := by simp [fresh_stimulus]
  have htick : ∀ x ∈ (if c.tick then [Slot.evt (stimulusWord 0x01 false)] else []), Fresh x := by
    cases c.tick <;> simp [fresh_stimulus]
  have hpor : ∀ x ∈ [Slot.evt (stimulusWord 0x08 false)], Fresh x := by simp [fresh_stimulus]
  unfold cycleAgenda
  cases c.por
  · exact List.forall_mem_append.2 ⟨List.forall_mem_append.2 ⟨List.forall_mem_append.2 ⟨List.forall_mem_append.2
      ⟨hlevels, hbus⟩, hfsm⟩, hinputs⟩, htick⟩
  · exact List.forall_mem_append.2 ⟨hlevels, hpor⟩

/-! ## The outcomes of a step -/

/-- What a step from `s` to `t` was. -/
inductive StepOutcome (s t : State) : Prop
  /-- a clock edge, an instruction of the outside or a refused command word -/
  | quiet (hquiet : Quiet s t) (hagenda : ∀ x ∈ t.agenda, x ∈ s.agenda ∨ Fresh x)
      (htrace : noLooseRequest s = true → t.trace = s.trace)
  /-- the reset -/
  | por (w : Word) (l : Bool) (rest : List Slot) (ha : s.agenda = .evt w :: rest) (hd : decodeEvt w = .ok (.evtPor l))
      (ht : t = porReset { s with agenda := rest })
  /-- the micro-step at the program counter -/
  | micro (i : Instr) (rest : List Slot) (ha : s.agenda = .fsm :: rest) (hd : decodeFsm (microCode s) = .ok i)
      (ht : exec i { s with agenda := rest } = .next t)

/-- An instruction of the outside, run on what is left of the agenda. -/
theorem StepOutcome.of_outer {s t : State} {slot : Slot} {rest : List Slot} {i : Instr} (ha : s.agenda = slot :: rest)
    (hout : Outer i { s with agenda := rest } t) (hreq : formatOf i = .req → ∃ hdr p, slot = .req hdr p) : StepOutcome s t := by
  have hquiet : Quiet s t := ⟨hout.cfg, hout.held, hout.cmdStatus, hout.timer, hout.enabled, hout.storeWf⟩
  refine .quiet hquiet (fun x hx => ?_) fun hloose => hout.trace fun hf => ?_
  · have hrest : ∀ y ∈ rest, y ∈ s.agenda := fun y hy => ha ▸ List.mem_cons_of_mem _ hy
    obtain heq | ⟨w, j, hj, heq⟩ := hout.agenda
    · rw [heq] at hx
      exact .inl (hrest x hx)
    · rw [heq] at hx
      obtain rfl | hx := List.mem_cons.1 hx
      · exact .inr (fresh_cmd hj)
      · exact .inl (hrest x hx)
  · obtain ⟨hdr, p, rfl⟩ := hreq hf
    simp [noLooseRequest, ha] at hloose

theorem stepOutcome {s t : State} (h : step s = .next t) : cfgValid s.cfg = true ∧ StepOutcome s t := by
  obtain ⟨hcfg, hcases⟩ := step_cases h
  refine ⟨hcfg, ?_⟩
  obtain ⟨-, rfl⟩ | ⟨slot, rest, ha, hrun⟩ := hcases
  · exact .quiet ⟨rfl, rfl, id, id, fun _ => rfl, id⟩ (fun x hx => .inr (cycleAgenda_fresh _ _ x hx)) fun _ => rfl
  obtain ⟨i, hfetch, hexec⟩ | ⟨w, -, rfl⟩ := runSlot_cases hrun
  · cases slot with
    | fsm => exact .micro i rest ha hfetch hexec
    | bus b =>
      obtain rfl : decodeBeat b = i := Except.ok.inj hfetch
      have hf := formatOf_decodeBeat b
      have hfsm : formatOf (decodeBeat b) ≠ .fsm := by obtain hf | hf := hf <;> simp [hf]
      have hreq : formatOf (decodeBeat b) ≠ .req := by obtain hf | hf := hf <;> simp [hf]
      have hpor : ∀ l, decodeBeat b ≠ .evtPor l := by rintro l heq; simp [heq, formatOf] at hf
      exact .of_outer ha (outer_of_exec hfsm hpor hexec) fun hf => absurd hf hreq
    | cmd w =>
      have hf := formatOf_of_decodeCmd hfetch
      have hpor : ∀ l, i ≠ .evtPor l := by rintro l rfl; cases hf
      exact .of_outer ha (outer_of_exec (by simp [hf]) hpor hexec) fun hreq => by simp [hf] at hreq
    | req hdr p =>
      have hf := formatOf_of_decodeReq (decodeReq_of_fetch hfetch)
      have hpor : ∀ l, i ≠ .evtPor l := by rintro l rfl; cases hf
      exact .of_outer ha (outer_of_exec (by simp [hf]) hpor hexec) fun _ => ⟨hdr, p, rfl⟩
    | evt w =>
      have hf := formatOf_of_decodeEvt hfetch
      by_cases hpor : ∃ l, i = .evtPor l
      · obtain ⟨l, rfl⟩ := hpor
        exact .por w l rest ha hfetch (Host.Outcome.next.inj hexec).symm
      · exact .of_outer ha (outer_of_exec (by simp [hf]) (not_exists.1 hpor) hexec) fun hreq => by simp [hf] at hreq
  · have hstatus (e : CmdErr) : cmdStatusLegal { s.main with cmdErr := true, cmdErrCode := e.code } = true := by cases e <;> rfl
    exact .quiet ⟨rfl, rfl, fun _ => hstatus _, id, fun _ => rfl, id⟩
      (fun x hx => .inl (ha ▸ List.mem_cons_of_mem _ hx)) fun _ => rfl

/-! ## The agenda and the trace -/

/-- Every slot of the next agenda was on the agenda, or is one that the machine lays out. -/
theorem agenda_after {s t : State} (h : StepOutcome s t) : ∀ x ∈ t.agenda, x ∈ s.agenda ∨ Fresh x := by
  cases h with
  | quiet _ hagenda _ => exact hagenda
  | por w l rest ha hd ht =>
    rw [ht]
    exact nofun
  | micro i rest ha hd ht =>
    intro x hx
    have hagenda := (microStep_of_exec (formatOf_of_decodeFsm hd) ht).port.agenda
    rw [hagenda] at hx
    exact .inl (ha ▸ List.mem_cons_of_mem _ hx)

/-- Settles O12: only the micro-steps issue requests by themselves, and theirs are legal. -/
theorem issuedRequestsAreLegal : Obligations.IssuedRequestsAreLegal := by
  intro s t hloose htrace hstep
  obtain ⟨-, hout⟩ := stepOutcome hstep
  constructor
  · refine List.all_eq_true.2 fun x hx => ?_
    obtain hold | ⟨-, hnot⟩ := agenda_after hout x hx
    · exact List.all_eq_true.1 hloose x hold
    · cases x
      case req hdr p => exact absurd rfl (hnot hdr p)
      all_goals rfl
  · cases hout with
    | quiet _ _ hkept => rwa [hkept hloose]
    | por w l rest ha hd ht => rwa [ht]
    | micro i rest ha hd ht => exact (microStep_of_exec (formatOf_of_decodeFsm hd) ht).port.trace_legal htrace

end Sys2Proof.Invariants
end

section
/-! The legal states (10_state.md R21, R38, R43, R53, R55; 20_memory.md R72; 42_power_fsm.md R237 to R240): every step keeps them, and
from none of them does the machine stop. -/

open Sys2Proof Sys2Proof.Machine Sys2Proof.Claims

namespace Sys2Proof.Invariants

/-! ## The program counter -/

theorem pcCode_eq {s t : State} (h : heldOf t = heldOf s) : pcCode t = pcCode s := by
  rw [pcCode, pcCode, show t.main.state = s.main.state from congrArg Held.state h,
    show t.main.substep = s.main.substep from congrArg Held.substep h]

theorem decodeFsm_sleeping0 : decodeFsm (microStepCode 4 0) = .ok .sleeping0 := rfl

/-- R239: in a DEEP suspension the micro-step is `SLEEPING.0`; otherwise it is the one at the program counter. -/
theorem pc_of_fetch {s : State} {i : Instr} (h : decodeFsm (microCode s) = .ok i) :
    (deepAsleep s = true ∧ i = .sleeping0) ∨ (deepAsleep s = false ∧ encode i = [pcCode s]) := by
  unfold microCode at h
  cases hdeep : deepAsleep s
  · rw [hdeep] at h
    exact .inr ⟨rfl, Encoding.encode_of_decodeFsm h⟩
  · rw [hdeep, if_pos rfl, decodeFsm_sleeping0] at h
    exact .inl ⟨rfl, (Except.ok.inj h).symm⟩

/-- R239: at `SLEEPING.0` the micro-step is `SLEEPING.0` in either variant. -/
theorem decodeFsm_of_sleeping {s : State} (hpc : pcCode s = 0x04) : decodeFsm (microCode s) = .ok .sleeping0 := by
  have hcode : microCode s = 0x04 := by
    unfold microCode
    split_ifs
    · decide
    · exact hpc
  rw [hcode]
  rfl

theorem sleeping0_of_fetch {s : State} {i : Instr} (hpc : pcCode s = 0x04) (h : decodeFsm (microCode s) = .ok i) :
    i = .sleeping0 :=
  Except.ok.inj (h.symm.trans (decodeFsm_of_sleeping hpc))

/-- R200: every micro-step leads to a listed one. -/
theorem successors_listed (i : Instr) : (successors i).all listedCode = true := by
  cases i <;> rfl

/-! ## Suspension -/

/-- What holds of a suspended block (R237, R239, R240). -/
def SuspendedWell (s : State) : Prop :=
  pcCode s = 0x04 ∧ (s.aon.lastVariant = true → s.aon.joinPending = true ∧ s.aon.fsmEn = true)

theorem suspendedWell_suspend (deep : Bool) (s : State) : SuspendedWell (suspend deep s) := by
  refine ⟨show microStepCode 4 0 = 0x04 by decide, ?_⟩
  cases deep
  · rw [suspend_light]
    nofun
  · rw [suspend_deep]
    exact fun _ => ⟨rfl, rfl⟩

/-- A micro-step leaves the block suspended only by suspending it, or by waiting in the suspension. -/
theorem suspendedWell_of_microStep {i : Instr} (hf : formatOf i = .fsm) {s t : State} (hexec : exec i s = .next t)
    (hrun : s.aon.asleep = true → i = .sleeping0) (hasleep : t.aon.asleep = true) : t = s ∨ SuspendedWell t := by
  by_cases hsleeping : i = .sleeping0
  · subst hsleeping
    obtain rfl := Host.Outcome.next.inj ((PowerFsm.exec_sleeping0 s).symm.trans hexec)
    split_ifs at hasleep ⊢
    · cases hasleep
    · cases hasleep
    · exact .inl rfl
  have hawake : s.aon.asleep = false := Bool.eq_false_iff.2 fun h => hsleeping (hrun h)
  by_cases hsuspend : i = .enterSleep7
  · subst hsuspend
    obtain rfl := Host.Outcome.next.inj ((PowerFsm.exec_enterSleep7 s).symm.trans hexec)
    split_ifs at hasleep ⊢
    · exact absurd hasleep (Bool.eq_false_iff.1 hawake)
    · exact .inr (suspendedWell_suspend _ _)
  · exact absurd hasleep (Bool.eq_false_iff.1 ((microStep_of_exec hf hexec).awake hsuspend hawake))

/-! ## The legal states -/

theorem all_slotRunnable_after {s t : State} (hout : StepOutcome s t) (h : s.agenda.all slotRunnable = true) :
    t.agenda.all slotRunnable = true := by
  refine List.all_eq_true.2 fun x hx => ?_
  obtain hold | ⟨hrun, -⟩ := agenda_after hout x hx
  · exact List.all_eq_true.1 h x hold
  · exact hrun

theorem legal_of_quiet {s t : State} (hquiet : Quiet s t) (hagenda : t.agenda.all slotRunnable = true) (h : Legal s) :
    Legal t := by
  obtain ⟨hcfg, hpc, hcombo, hcause, hstatus, hpct, hsleep, hdeep, hstore, -⟩ := h
  have hasleep : t.aon.asleep = s.aon.asleep := congrArg Held.asleep hquiet.held
  have hvariant : t.aon.lastVariant = s.aon.lastVariant := congrArg Held.lastVariant hquiet.held
  have hjoin : t.aon.joinPending = s.aon.joinPending := congrArg Held.joinPending hquiet.held
  have hcomboEq : t.aon.combo = s.aon.combo := congrArg Held.combo hquiet.held
  have hcauseEq : t.aon.wakeCause = s.aon.wakeCause := congrArg Held.wakeCause hquiet.held
  have hpctEq : t.aon.battPct = s.aon.battPct := congrArg Held.battPct hquiet.held
  rw [Legal, hquiet.cfg, pcCode_eq hquiet.held, hasleep, hvariant, hjoin, hcomboEq, hcauseEq, hpctEq]
  refine ⟨hcfg, hpc, hcombo, hcause, hquiet.cmdStatus hstatus, hpct, hsleep, fun ha hv => ⟨(hdeep ha hv).1, ?_⟩,
    hquiet.storeWf hstore, hagenda⟩
  rw [hquiet.enabled (by simp [deepAsleep, ha, hv])]
  exact (hdeep ha hv).2

theorem legal_porReset {s : State} (h : Legal s) : Legal (porReset s) := by
  obtain ⟨hcfg, -, -, -, -, -, -, -, hstore, -⟩ := h
  have hpc : pcCode (porReset s) = 0x00 := show microStepCode 0 0 = 0x00 by decide
  exact ⟨hcfg, by rw [hpc]; decide, rfl, Nat.le_refl 4, rfl, Nat.zero_le _, nofun, nofun, hstore, rfl⟩

theorem legal_of_microStep {i : Instr} (hf : formatOf i = .fsm) {s t : State} (hexec : exec i s = .next t)
    (hrun : s.aon.asleep = true → i = .sleeping0) (h : Legal s) : Legal t := by
  have hstep := microStep_of_exec hf hexec
  obtain heq | hpc := hstep.pc
  · rwa [heq]
  obtain ⟨hcfg, -, hcombo, hcause, hstatus, hpct, hsleep, hdeep, hstore, hagenda⟩ := id h
  obtain ⟨htcombo, htcause, htstatus, htpct⟩ := hstep.sound hcfg ⟨hcombo, hcause, hstatus, hpct⟩
  have hwell (ha : t.aon.asleep = true) : SuspendedWell t := by
    obtain rfl | hwell := suspendedWell_of_microStep hf hexec hrun ha
    · exact ⟨hsleep ha, hdeep ha⟩
    · exact hwell
  exact ⟨by rw [hstep.port.cfg]; exact hcfg, List.all_eq_true.1 (successors_listed i) _ hpc, htcombo, htcause, htstatus, htpct,
    fun ha => (hwell ha).1, fun ha => (hwell ha).2, hstep.port.store_wf hstore, by rw [hstep.port.agenda]; exact hagenda⟩

/-- A legal state is legal with less on its agenda. -/
theorem legal_tail {s : State} {slot : Slot} {rest : List Slot} (h : Legal s) (ha : s.agenda = slot :: rest) :
    Legal { s with agenda := rest } := by
  obtain ⟨hcfg, hpc, hcombo, hcause, hstatus, hpct, hsleep, hdeep, hstore, hagenda⟩ := h
  rw [ha, List.all_cons, Bool.and_eq_true] at hagenda
  exact ⟨hcfg, hpc, hcombo, hcause, hstatus, hpct, hsleep, hdeep, hstore, hagenda.2⟩

/-- Settles O7: one lemma for each outcome of a step. -/
theorem legalKeptByStep : Obligations.LegalKeptByStep := by
  intro s t hlegal hstep
  obtain ⟨-, hout⟩ := stepOutcome hstep
  have hrunnable := all_slotRunnable_after hout
  obtain ⟨-, -, -, -, -, -, hsleep, -, -, hagenda⟩ := id hlegal
  cases hout with
  | quiet hquiet _ _ => exact legal_of_quiet hquiet (hrunnable hagenda) hlegal
  | por w l rest ha hd ht => exact ht ▸ legal_porReset (legal_tail hlegal ha)
  | micro i rest ha hd ht =>
    exact legal_of_microStep (formatOf_of_decodeFsm hd) ht (fun hasleep => sleeping0_of_fetch (hsleep hasleep) hd)
      (legal_tail hlegal ha)

/-- R21: the program counter of a legal state is a micro-step. -/
theorem decodeFsm_of_listed {code : Byte} (h : listedCode code = true) : ∃ i, decodeFsm code = .ok i := by
  unfold listedCode at h
  split at h
  next i hi => exact ⟨i, hi⟩
  next => cases h

theorem fetch_of_runnable {slot : Slot} {s : State} (hslot : slotRunnable slot = true) (hpc : listedCode (pcCode s) = true) :
    ∃ i, fetch slot s = .ok i := by
  cases slot with
  | bus b => exact ⟨_, rfl⟩
  | fsm =>
    refine decodeFsm_of_listed (code := microCode s) ?_
    unfold microCode
    split_ifs
    · rfl
    · exact hpc
  | cmd w =>
    simp only [slotRunnable] at hslot
    split at hslot
    next i hi => exact ⟨i, hi⟩
    next => cases hslot
  | evt w =>
    simp only [slotRunnable] at hslot
    split at hslot
    next i hi => exact ⟨i, hi⟩
    next => cases hslot
  | req hdr p =>
    simp only [slotRunnable] at hslot
    split at hslot
    next i hi => exact ⟨i, by simp [fetch, hi]⟩
    next => cases hslot

/-- Settles O8: what is on the agenda of a legal state decodes, and every instruction completes (`exec_next`). -/
theorem legalNeverStops : Obligations.LegalNeverStops := by
  intro s hlegal
  obtain ⟨hcfg, hpc, -, -, -, -, -, -, -, hagenda⟩ := hlegal
  cases ha : s.agenda with
  | nil => exact ⟨_, Cycle.step_of_done hcfg ha⟩
  | cons slot rest =>
    rw [ha, List.all_cons, Bool.and_eq_true] at hagenda
    obtain ⟨i, hi⟩ := fetch_of_runnable (s := { s with agenda := rest }) hagenda.1 hpc
    rw [Cycle.step_of_fetch hcfg ha hi]
    exact exec_next i _

end Sys2Proof.Invariants
end

section
/-! The identification runs once (40_sensor_id.md R133, R137), and the attempts of a join visit are bounded (42_power_fsm.md R204 to
R206). -/

open Sys2Proof Sys2Proof.Machine Sys2Proof.Claims Sys2Proof.PowerFsm

namespace Sys2Proof.Invariants

/-- R239: a micro-step other than `SLEEPING.0` runs at its own code. -/
theorem encode_of_fetch {s : State} {i : Instr} (h : decodeFsm (microCode s) = .ok i) (hi : i ≠ .sleeping0) :
    encode i = [pcCode s] := by
  obtain ⟨-, hsleeping⟩ | ⟨-, hpc⟩ := pc_of_fetch h
  · exact absurd hsleeping hi
  · exact hpc

/-! ## The identification (R133, R137) -/

/-- R133, R200: the identification micro-steps follow `ACTIVE_SESSION.1` and each other. -/
theorem identify_predecessor {i : Instr} {code : Byte} (h : code ∈ successors i)
    (hcode : code = 0x12 ∨ code = 0x1A ∨ code = 0x22) : i = .activeSession1 ∨ i ∈ comboSteps := by
  obtain rfl | rfl | rfl := hcode <;> cases i <;> simp [successors, comboSteps] at h ⊢

theorem comboStep_pc {s : State} {i : Instr} (hi : i ∈ comboSteps) (hd : decodeFsm (microCode s) = .ok i) :
    pcCode s = 0x12 ∨ pcCode s = 0x1A ∨ pcCode s = 0x22 := by
  simp only [comboSteps, List.mem_cons, List.not_mem_nil, or_false] at hi
  obtain rfl | rfl | rfl := hi
  · exact .inl (List.cons.inj (encode_of_fetch hd nofun)).1.symm
  · exact .inr (.inl (List.cons.inj (encode_of_fetch hd nofun)).1.symm)
  · exact .inr (.inr (List.cons.inj (encode_of_fetch hd nofun)).1.symm)

/-- R133: `ACTIVE_SESSION.1` leads to the identification only while nothing is cached. -/
theorem identifiesOnce_of_activeSession1 {s t : State} (hexec : exec .activeSession1 s = .next t) : IdentifiesOnce t := by
  rw [exec_activeSession1] at hexec
  split_ifs at hexec with hvalid
  · obtain rfl := Host.Outcome.next.inj hexec
    have hpc : pcCode (atStep 2 5 s) = 0x2A := show microStepCode 2 5 = 0x2A by decide
    rw [IdentifiesOnce, hpc]
    exact fun h => absurd h (by decide)
  · obtain rfl := Host.Outcome.next.inj hexec
    exact fun _ => Bool.eq_false_iff.2 hvalid

theorem identifiesOnce_of_microStep {i : Instr} (hf : formatOf i = .fsm) {s t : State} (hexec : exec i s = .next t)
    (hstart : i ∈ comboSteps → s.aon.combo.valid = false) (h : IdentifiesOnce s) : IdentifiesOnce t := by
  have hstep := microStep_of_exec hf hexec
  obtain heq | hpc := hstep.pc
  · rwa [heq]
  intro hcode
  obtain rfl | hi := identify_predecessor hpc hcode
  · exact identifiesOnce_of_activeSession1 hexec hcode
  obtain hsame | ⟨-, hdone⟩ := hstep.combo
  · rw [hsame]
    exact hstart hi
  · rw [hdone] at hcode
    exact absurd hcode (by decide)

/-- Settles O10: only an identification micro-step decides `COMBO`, and none runs once it is decided. -/
theorem comboChangesOnlyAtPor : Obligations.ComboChangesOnlyAtPor := by
  intro s t h hstep
  obtain ⟨-, hout⟩ := stepOutcome hstep
  cases hout with
  | quiet hquiet _ _ =>
    have hcombo : t.aon.combo = s.aon.combo := congrArg Held.combo hquiet.held
    refine ⟨?_, fun _ => .inl hcombo⟩
    rw [IdentifiesOnce, pcCode_eq hquiet.held, hcombo]
    exact h
  | por w l rest ha hd ht => exact ⟨fun _ => by rw [ht]; rfl, fun _ => .inr ⟨w, l, rest, ha, hd⟩⟩
  | micro i rest ha hd ht =>
    have hf := formatOf_of_decodeFsm hd
    have hstart (hi : i ∈ comboSteps) : s.aon.combo.valid = false := h (comboStep_pc hi hd)
    refine ⟨identifiesOnce_of_microStep hf ht hstart h, fun hvalid => .inl ?_⟩
    obtain hsame | ⟨hi, -⟩ := (microStep_of_exec hf ht).combo
    · exact hsame
    · exact absurd hvalid (Bool.eq_false_iff.1 (hstart hi))

/-! ## The join attempts (R204 to R206) -/

theorem joinBounded_of_zero {s : State} (hattempts : 1 ≤ s.cfg.joinAttempts.toNat) (h : s.main.joinTry = 0) : JoinBounded s := by
  rw [JoinBounded, h]
  exact ⟨Nat.zero_le _, fun _ => hattempts⟩

/-- Away from a join visit only the bound is left. -/
theorem joinBounded_elsewhere {s u : State} (h : JoinBounded s) (hcfg : u.cfg = s.cfg)
    (htry : u.main.joinTry = s.main.joinTry) {st : BitVec 3} {k : BitVec 5}
    (hk : ¬(microStepCode st k = 0x01 ∨ microStepCode st k = 0x09)) : JoinBounded (atStep st k u) := by
  obtain ⟨hbound, -⟩ := h
  rw [← hcfg, ← htry] at hbound
  exact ⟨hbound, fun hjoining => absurd hjoining hk⟩

/-- R200: outside the micro-steps that change `JOIN_TRY`, a join visit is entered from its backoff only. -/
theorem joining_predecessor {i : Instr} {code : Byte} (h : code ∈ successors i) (hcode : code = 0x01 ∨ code = 0x09) :
    i = .join1 ∨ i ∈ joinTrySteps := by
  obtain rfl | rfl := hcode <;> cases i <;> simp [successors, joinTrySteps] at h ⊢

/-- R204 to R206: a failure counts, and waits only while attempts are left. -/
theorem joinBounded_joinFailed {s : State} (h : s.main.joinTry.toNat < s.cfg.joinAttempts.toNat) : JoinBounded (joinFailed s) := by
  have hcount : (s.main.joinTry + 1).toNat = s.main.joinTry.toNat + 1 := by
    have := s.cfg.joinAttempts.isLt
    exact BitVec.toNat_add_of_lt (show s.main.joinTry.toNat + 1 < 2 ^ 8 by omega)
  by_cases hleft : s.main.joinTry.toNat + 1 < s.cfg.joinAttempts.toNat
  · rw [joinFailed_of_lt hleft]
    have hlt : (s.main.joinTry + 1).toNat < s.cfg.joinAttempts.toNat := hcount ▸ hleft
    exact ⟨hlt.le, fun _ => hlt⟩
  · rw [joinFailed_of_not_lt hleft]
    have hle : (s.main.joinTry + 1).toNat ≤ s.cfg.joinAttempts.toNat := hcount ▸ h
    exact ⟨hle, fun hj => absurd hj (by show ¬(microStepCode 3 0 = _ ∨ microStepCode 3 0 = _); decide)⟩

theorem joinBounded_boot3 {s t : State} (hexec : exec .boot3 s = .next t) (hattempts : 1 ≤ s.cfg.joinAttempts.toNat)
    (h : JoinBounded s) : JoinBounded t := by
  rw [exec_boot3] at hexec
  split_ifs at hexec <;> obtain rfl := Host.Outcome.next.inj hexec
  · exact joinBounded_of_zero hattempts rfl
  · exact joinBounded_elsewhere h rfl rfl (by decide)

theorem joinBounded_join0 {s t : State} (hexec : exec .join0 s = .next t)
    (hleft : s.main.joinTry.toNat < s.cfg.joinAttempts.toNat) (h : JoinBounded s) : JoinBounded t := by
  cases hr : s.ans.ready
  · obtain rfl := Host.Outcome.next.inj ((RequestPort.exec_microStep_unanswered hr (by decide)).symm.trans hexec)
    exact h
  by_cases hok : s.ans.status = 0
  · obtain rfl := Host.Outcome.next.inj ((exec_join0_of_ok hr hok).symm.trans hexec)
    exact joinBounded_elsewhere h rfl rfl (by decide)
  · obtain rfl := Host.Outcome.next.inj ((exec_join0_of_err hr hok).symm.trans hexec)
    exact joinBounded_joinFailed hleft

theorem joinBounded_sleeping0 {s t : State} (hexec : exec .sleeping0 s = .next t) (hattempts : 1 ≤ s.cfg.joinAttempts.toNat)
    (h : JoinBounded s) : JoinBounded t := by
  obtain rfl := Host.Outcome.next.inj ((exec_sleeping0 s).symm.trans hexec)
  split_ifs
  · exact joinBounded_of_zero hattempts rfl
  · exact joinBounded_elsewhere h rfl rfl (by decide)
  · exact h

theorem joinBounded_wake0 {s t : State} (hexec : exec .wake0 s = .next t) (hattempts : 1 ≤ s.cfg.joinAttempts.toNat)
    (h : JoinBounded s) : JoinBounded t := by
  by_cases hnone : armedPending s = 0
  · obtain rfl := Host.Outcome.next.inj ((exec_wake0_of_none hnone).symm.trans hexec)
    exact joinBounded_elsewhere h rfl rfl (by decide)
  obtain rfl := Host.Outcome.next.inj ((exec_wake0_of_pending hnone).symm.trans hexec)
  have helsewhere {st : BitVec 3} {k : BitVec 5} (hk : ¬(microStepCode st k = 0x01 ∨ microStepCode st k = 0x09)) :
      JoinBounded (atStep st k (served (armedPending s) s)) :=
    joinBounded_elsewhere h rfl rfl hk
  unfold afterDispatch
  cases pri (armedPending s) <;> dsimp only
  case button => exact helsewhere (by decide)
  case timer =>
    split_ifs
    · exact joinBounded_of_zero hattempts rfl
    · exact helsewhere (by decide)
  all_goals split_ifs <;> exact helsewhere (by decide)

theorem joinBounded_of_joinTryStep {i : Instr} (hi : i ∈ joinTrySteps) {s t : State} (hexec : exec i s = .next t)
    (hattempts : 1 ≤ s.cfg.joinAttempts.toNat)
    (hleft : i = .join0 → s.main.joinTry.toNat < s.cfg.joinAttempts.toNat) (h : JoinBounded s) : JoinBounded t := by
  simp only [joinTrySteps, List.mem_cons, List.not_mem_nil, or_false] at hi
  obtain rfl | rfl | rfl | rfl | rfl := hi
  · exact joinBounded_boot3 hexec hattempts h
  · exact joinBounded_join0 hexec (hleft rfl) h
  · exact joinBounded_sleeping0 hexec hattempts h
  · exact joinBounded_wake0 hexec hattempts h
  · obtain rfl := Host.Outcome.next.inj hexec
    exact joinBounded_of_zero hattempts rfl

/-- A micro-step that keeps `JOIN_TRY` is in the visit only if it waits, or ends the backoff. -/
theorem joinBounded_of_microStep {i : Instr} (hi : i ∉ joinTrySteps) (hf : formatOf i = .fsm) {s t : State}
    (hexec : exec i s = .next t) (hleft : i = .join1 → s.main.joinTry.toNat < s.cfg.joinAttempts.toNat) (h : JoinBounded s) :
    JoinBounded t := by
  have hstep := microStep_of_exec hf hexec
  obtain heq | hpc := hstep.pc
  · rwa [heq]
  rw [JoinBounded, hstep.port.cfg, hstep.joinTry hi]
  refine ⟨h.1, fun hcode => hleft ?_⟩
  obtain hjoin | hreset := joining_predecessor hpc hcode
  · exact hjoin
  · exact absurd hreset hi

/-- Settles O11: the micro-steps that change `JOIN_TRY` clear it or count a failure of a visit with attempts left. -/
theorem joinAttemptsBounded : Obligations.JoinAttemptsBounded := by
  intro s t h hstep
  obtain ⟨hcfg, hout⟩ := stepOutcome hstep
  obtain ⟨hattempts, -⟩ := Cycle.cfgValid_bounds hcfg
  obtain ⟨-, hleft⟩ := id h
  cases hout with
  | quiet hquiet _ _ =>
    rw [JoinBounded, pcCode_eq hquiet.held, hquiet.cfg,
      show t.main.joinTry = s.main.joinTry from congrArg Held.joinTry hquiet.held]
    exact h
  | por w l rest ha hd ht => exact ht ▸ joinBounded_of_zero hattempts rfl
  | micro i rest ha hd ht =>
    by_cases hi : i ∈ joinTrySteps
    · refine joinBounded_of_joinTryStep hi ht hattempts ?_ h
      rintro rfl
      exact hleft (.inl (List.cons.inj (encode_of_fetch hd nofun)).1.symm)
    · refine joinBounded_of_microStep hi (formatOf_of_decodeFsm hd) ht ?_ h
      rintro rfl
      exact hleft (.inr (List.cons.inj (encode_of_fetch hd nofun)).1.symm)

end Sys2Proof.Invariants
end

section
/-! The wake guarantee (42_power_fsm.md R235 to R240; 60_exceptions.md R310, R311): from the plan to the end of the suspension the timer
is in the plan or armed, and counts or has fired. -/

open Sys2Proof Sys2Proof.Machine Sys2Proof.Claims Sys2Proof.PowerFsm

namespace Sys2Proof.Invariants

/-! ## The guarantee is kept -/

theorem wakeGuaranteed_of_quiet {s t : State} (hquiet : Quiet s t) (h : WakeGuaranteed s) : WakeGuaranteed t := by
  obtain ⟨hplan, harmed, hsleeping, hasleep⟩ := h
  rw [WakeGuaranteed, pcCode_eq hquiet.held, show t.main.planArm = s.main.planArm from congrArg Held.planArm hquiet.held,
    show t.aon.wakeArm = s.aon.wakeArm from congrArg Held.wakeArm hquiet.held,
    show t.aon.asleep = s.aon.asleep from congrArg Held.asleep hquiet.held]
  exact ⟨fun h => (hplan h).imp_right hquiet.timer, fun h => (harmed h).imp_right hquiet.timer,
    fun h => (hsleeping h).imp_right hquiet.timer, hasleep⟩

theorem wakeGuaranteed_porReset (s : State) : WakeGuaranteed (porReset s) := by
  rw [WakeGuaranteed, show pcCode (porReset s) = 0x00 from show microStepCode 0 0 = 0x00 by decide]
  exact ⟨nofun, nofun, nofun, nofun⟩

/-- R200: each micro-step of the guarantee follows one other. -/
theorem guarantee_predecessor {i : Instr} :
    (0x2B ∈ successors i → i = .enterSleep4) ∧ (0x3B ∈ successors i → i = .enterSleep5) ∧
      (0x04 ∈ successors i → i = .enterSleep7) := by
  cases i <;> simp [successors]

/-- R234: the plan holds the timer, and starts it. -/
theorem planned_of_enterSleep4 {s t : State} (hexec : exec .enterSleep4 s = .next t) :
    t.main.planArm.getLsbD 0 = true ∧ timerHolds t := by
  obtain rfl := Host.Outcome.next.inj ((exec_enterSleep4 s).symm.trans hexec)
  refine ⟨?_, .inl rfl⟩
  show (if (s.assocValid && !s.aon.joinPending) = true then (0b1111 : BitVec 4) else 0b0001).getLsbD 0 = true
  split_ifs <;> rfl

/-- R235: the accepted plan is what is armed. -/
theorem armed_of_enterSleep5 {s t : State} (hexec : exec .enterSleep5 s = .next t) (hpc : pcCode t = 0x3B)
    (hat : pcCode s = 0x2B) (hplan : s.main.planArm.getLsbD 0 = true ∧ timerHolds s) :
    t.aon.wakeArm.getLsbD 0 = true ∧ timerHolds t := by
  cases hr : s.ans.ready
  · obtain rfl := Host.Outcome.next.inj ((RequestPort.exec_microStep_unanswered hr (by decide)).symm.trans hexec)
    exact absurd (hat.symm.trans hpc) (by decide)
  obtain rfl := Host.Outcome.next.inj ((exec_enterSleep5_answered hr).symm.trans hexec)
  split_ifs at hpc ⊢
  · exact hplan
  · exact absurd (show microStepCode 3 6 = 0x3B from hpc) (by decide)

/-- R237: what is armed stays armed in the suspension. -/
theorem sleeping_of_enterSleep7 {s t : State} (hexec : exec .enterSleep7 s = .next t)
    (harmed : s.aon.wakeArm.getLsbD 0 = true ∧ timerHolds s) : t.aon.wakeArm.getLsbD 0 = true ∧ timerHolds t := by
  obtain rfl := Host.Outcome.next.inj ((exec_enterSleep7 s).symm.trans hexec)
  split_ifs
  · exact harmed
  · cases s.main.planRetain
    · rw [Bool.not_false, suspend_deep]
      exact harmed
    · rw [Bool.not_true, suspend_light]
      exact harmed

theorem wakeGuaranteed_of_microStep {i : Instr} {s t : State} (hd : decodeFsm (microCode s) = .ok i)
    (hexec : exec i s = .next t) (h : WakeGuaranteed s) : WakeGuaranteed t := by
  have hf := formatOf_of_decodeFsm hd
  obtain heq | hpc := (microStep_of_exec hf hexec).pc
  · rwa [heq]
  obtain ⟨hplan, harmed, hsleeping, hasleep⟩ := h
  obtain ⟨hplans, harms, hsuspends⟩ := guarantee_predecessor (i := i)
  have hat (hi : i ≠ .sleeping0) : encode i = [pcCode s] := encode_of_fetch hd hi
  refine ⟨fun hcode => ?_, fun hcode => ?_, fun hcode => ?_, fun hsuspended => ?_⟩
  · obtain rfl := hplans (hcode ▸ hpc)
    exact planned_of_enterSleep4 hexec
  · obtain rfl := harms (hcode ▸ hpc)
    have hfrom : pcCode s = 0x2B := (List.cons.inj (hat nofun)).1.symm
    exact armed_of_enterSleep5 hexec hcode hfrom (hplan hfrom)
  · obtain rfl := hsuspends (hcode ▸ hpc)
    exact sleeping_of_enterSleep7 hexec (harmed (List.cons.inj (hat nofun)).1.symm)
  · obtain rfl | ⟨hcode, -⟩ := suspendedWell_of_microStep hf hexec (fun h => sleeping0_of_fetch (hasleep h) hd) hsuspended
    · exact hasleep hsuspended
    · exact hcode

theorem wakeGuaranteed_step {s t : State} (h : WakeGuaranteed s) (hstep : step s = .next t) : WakeGuaranteed t := by
  obtain ⟨-, hout⟩ := stepOutcome hstep
  cases hout with
  | quiet hquiet _ _ => exact wakeGuaranteed_of_quiet hquiet h
  | por w l rest ha hd ht => exact ht ▸ wakeGuaranteed_porReset _
  | micro i rest ha hd ht => exact wakeGuaranteed_of_microStep (s := { s with agenda := rest }) hd ht h

/-! ## The deadline (R311) -/

/-- R311: the tick that reaches the deadline leaves the timer's latch set, whether it fires now or has fired before. -/
theorem latched_of_tick {s : State} (hreached : s.aon.deadline.toNat ≤ (s.aon.time.toNat + 1) % 2 ^ 64) (h : timerHolds s) :
    (fireTimer (advanceTime s)).aon.wakePend.getLsbD 0 = true := by
  by_cases hdue : OneShotTimer.TimerDue (advanceTime s)
  · rw [OneShotTimer.fireTimer_of_due hdue]
    simp
  · rw [OneShotTimer.fireTimer_of_not_due hdue]
    exact h.resolve_left fun hrun => hdue ((OneShotTimer.timerDue_advanceTime_iff s).2 ⟨hrun, hreached⟩)

/-! ## The cycle that ends a suspension (R240) -/

/-- A state at `SLEEPING.0` that an armed latch wakes when the FSM next steps. -/
structure Rousable (s : State) : Prop where
  cfg : cfgValid s.cfg = true
  pc : pcCode s = 0x04
  pending : armedPending s ≠ 0

theorem rousable_of_timer {s : State} (hcfg : cfgValid s.cfg = true) (hpc : pcCode s = 0x04)
    (harm : s.aon.wakeArm.getLsbD 0 = true) (hlatch : s.aon.wakePend.getLsbD 0 = true) : Rousable s := by
  refine ⟨hcfg, hpc, fun hnone => ?_⟩
  have hbit : (armedPending s).getLsbD 0 = true := by rw [armedPending, BitVec.getLsbD_and, hlatch, harm]; rfl
  rw [hnone] at hbit
  cases hbit

theorem rouses {s : State} {rest : List Slot} (h : Rousable s) (ha : s.agenda = .fsm :: rest) :
    ∃ t, Sys2Proof.core.run 1 s = .next t ∧ t.aon.asleep = false := by
  have hstep := (Cycle.step_of_fetch h.cfg ha (decodeFsm_of_sleeping h.pc)).trans (exec_sleeping0 _)
  rw [if_pos (show armedPending { s with agenda := rest } ≠ 0 from h.pending)] at hstep
  refine ⟨_, (Cycle.run_succ hstep 0).trans rfl, ?_⟩
  split_ifs <;> rfl

theorem writeEffect_frame (r : Reg) (w : Word) {s : State} (hauto : s.cycEn = true) :
    (writeEffect r w s).aon.wakePend = s.aon.wakePend ∧ (writeEffect r w s).agenda = s.agenda := by
  cases hw : RegisterBus.isWritable r
  · rw [RegisterBus.writeEffect_of_read_only hw]
    exact ⟨rfl, rfl⟩
  cases r <;> simp only [RegisterBus.isWritable, Bool.false_eq_true] at hw
  case status c => cases c <;> exact ⟨rfl, rfl⟩
  case cmd =>
    rw [writeEffect, RegisterBus.issueCommand_eq, if_pos hauto]
    exact ⟨rfl, rfl⟩
  all_goals exact ⟨rfl, rfl⟩

theorem busWr_frame {addr : BitVec 12} {size : BitVec 3} {w : Word} {s t : State} (hauto : s.cycEn = true)
    (h : exec (.busWr addr size w) s = .next t) : t.aon.wakePend = s.aon.wakePend ∧ t.agenda = s.agenda := by
  change execBusWr addr size w s = .next t at h
  unfold execBusWr at h
  split at h <;> obtain rfl := Host.Outcome.next.inj h
  · exact writeEffect_frame _ w hauto
  · exact ⟨rfl, rfl⟩

theorem busRd_frame {addr : BitVec 12} {size : BitVec 3} {s t : State} (h : exec (.busRd addr size) s = .next t) :
    t.aon.wakePend = s.aon.wakePend ∧ t.agenda = s.agenda := by
  change execBusRd addr size s = .next t at h
  unfold execBusRd at h
  split at h <;> obtain rfl := Host.Outcome.next.inj h
  next r _ => cases r <;> exact ⟨rfl, rfl⟩
  next => exact ⟨rfl, rfl⟩

/-- An access in a cycle that began in autonomous mode changes neither what wakes the block nor what is left of the cycle (R103). -/
theorem access_frame (b : BusBeat) {s : State} (hauto : s.cycEn = true) :
    ∃ t, exec (decodeBeat b) s = .next t ∧ Quiet s t ∧ t.aon.wakePend = s.aon.wakePend ∧ t.agenda = s.agenda := by
  unfold decodeBeat
  split_ifs
  · obtain ⟨t, ht, hout⟩ := outer_busWr b.addr b.size b.data s
    exact ⟨t, ht, hout.toQuiet, busWr_frame hauto ht⟩
  · obtain ⟨t, ht, hout⟩ := outer_busRd b.addr b.size s
    exact ⟨t, ht, hout.toQuiet, busRd_frame ht⟩

theorem rousable_of_quiet {s t : State} (hquiet : Quiet s t) (hlatches : t.aon.wakePend = s.aon.wakePend) (h : Rousable s) :
    Rousable t := by
  refine ⟨hquiet.cfg ▸ h.cfg, (pcCode_eq hquiet.held).trans h.pc, ?_⟩
  rw [armedPending, hlatches, show t.aon.wakeArm = s.aon.wakeArm from congrArg Held.wakeArm hquiet.held]
  exact h.pending

theorem rouses_after_access {s : State} (bus : Option BusBeat) {rest : List Slot} (h : Rousable s) (hauto : s.cycEn = true)
    (ha : s.agenda = bus.toList.map Slot.bus ++ .fsm :: rest) :
    ∃ t, Sys2Proof.core.run (bus.toList.length + 1) s = .next t ∧ t.aon.asleep = false := by
  cases bus with
  | none => exact rouses h ha
  | some b =>
    obtain ⟨t, ht, hquiet, hlatches, hagenda⟩ := access_frame b (s := { s with agenda := .fsm :: rest }) hauto
    have hstep : step s = .next t := (Cycle.step_of_fetch (slot := .bus b) (i := decodeBeat b) h.cfg ha rfl).trans ht
    have hrousable : Rousable { s with agenda := .fsm :: rest } := ⟨h.cfg, h.pc, h.pending⟩
    obtain ⟨u, hu, hawake⟩ := rouses (rousable_of_quiet hquiet hlatches hrousable) hagenda
    exact ⟨u, (Cycle.run_succ hstep 1).trans hu, hawake⟩

/-- R89: the radio levels come first in a cycle. -/
theorem run_levels {s : State} {assoc idle : Bool} {rest : List Slot} (hcfg : cfgValid s.cfg = true)
    (ha : s.agenda = .evt (stimulusWord 0x05 assoc) :: .evt (stimulusWord 0x06 idle) :: rest) (k : Nat) :
    Sys2Proof.core.run (k + 2) s =
      Sys2Proof.core.run k { s with agenda := rest, assocValid := assoc, radioIdle := idle } := by
  have hassoc : decodeEvt (stimulusWord 0x05 assoc) = .ok (.evtInAssoc assoc) := by cases assoc <;> rfl
  have hidle : decodeEvt (stimulusWord 0x06 idle) = .ok (.evtInIdle idle) := by cases idle <;> rfl
  rw [Cycle.run_succ (Cycle.step_of_fetch hcfg ha hassoc),
    Cycle.run_succ (Cycle.step_of_fetch (s := { s with
      agenda := .evt (stimulusWord 0x06 idle) :: rest, assocValid := assoc }) hcfg rfl hidle)]

theorem cycleAgenda_stepping {c : CycleIn} (hpor : c.por = false) : ∃ rest,
    cycleAgenda true c = .evt (stimulusWord 0x05 c.assoc) :: .evt (stimulusWord 0x06 c.idle) ::
      (c.bus.toList.map Slot.bus ++ .fsm :: rest) := by
  unfold cycleAgenda
  rw [hpor]
  cases c.bus <;> exact ⟨_, rfl⟩

/-- R240: the next cycle that steps the FSM ends the suspension. -/
theorem rouses_next_cycle {s : State} (h : Rousable s) (hdone : s.agenda = []) (hen : s.aon.fsmEn = true)
    (hpor : (nextInputs s).por = false) :
    ∃ t, Sys2Proof.core.run ((nextInputs s).bus.toList.length + 4) s = .next t ∧ t.aon.asleep = false := by
  obtain ⟨rest, hrest⟩ := cycleAgenda_stepping hpor
  have hagenda : (openCycle s).agenda = _ := (congrArg (cycleAgenda · (nextInputs s)) hen).trans hrest
  rw [Cycle.run_succ (Cycle.step_of_done h.cfg hdone), run_levels (s := openCycle s) h.cfg hagenda]
  exact rouses_after_access _ ⟨h.cfg, h.pc, h.pending⟩ hen rfl

/-- Settles O9: `wakeGuaranteed_step` keeps the guarantee; the other clauses are its last ones at a suspended block. -/
theorem wakeGuaranteeKept : Obligations.WakeGuaranteeKept := by
  intro s h
  obtain ⟨-, -, hsleeping, hasleep⟩ := id h
  refine ⟨fun t => wakeGuaranteed_step h, fun hs => hsleeping (hasleep hs), fun l hs hreached => ?_,
    fun hs hlatch hcfg hdone hen => ?_⟩
  · obtain ⟨-, hholds⟩ := hsleeping (hasleep hs)
    have hkept : (fireTimer (advanceTime s)).aon.asleep = s.aon.asleep :=
      congrArg Held.asleep (outer_tick (i := .evtTick l) s).held
    exact ⟨_, OneShotTimer.exec_evtTick l s, hkept.trans hs, latched_of_tick hreached hholds⟩
  · obtain ⟨harm, -⟩ := hsleeping (hasleep hs)
    rw [← Cycle.nextInputs_eq]
    exact rouses_next_cycle (rousable_of_timer hcfg (hasleep hs) harm hlatch) hdone hen

end Sys2Proof.Invariants
end
